-- ==== Sys2Proof/Word.lean ====
section
/-! DEFINITION. The two word types of the block: a byte and a 32-bit register word (00_scope R9, 10_state R21). -/

namespace Sys2Proof

/-- A byte (R9). -/
abbrev Byte := BitVec 8

/-- A whole register (R21). -/
abbrev Word := BitVec 32

end Sys2Proof
end

