-- ==== Sys2Proof/Config.lean ====
section
/-! DEFINITION. What an implementation fixes (00_scope R7) and the free values the environment draws (00_scope R13). -/

namespace Sys2Proof

/-- The OPEN parameters of R7. The CFG registers read them back (R33). They stand in State, where no step changes them, so
that every claim about all states is a claim about all parameter values. -/
structure Params where
  maxRecv : Word
  storeBytes : Word
  inbufBytes : Word
  checkVersion : Bool
  deriving DecidableEq, Repr

/-- The ranges R7 gives the parameters: `P_MAX_RECV_SIZE` from 1, `P_STORE_BYTES` to 2^32 - 7, `P_INBUF_BYTES` from 1 to 2^30. -/
abbrev Params.wf (p : Params) : Prop :=
  1 ≤ p.maxRecv.toNat ∧ p.storeBytes.toNat ≤ 4294967289 ∧ 1 ≤ p.inbufBytes.toNat ∧ p.inbufBytes.toNat ≤ 1073741824

namespace Config

/-- DESIGN CHOICE (log 1). The spec leaves the parameters OPEN; `State.reset` takes the values that 95_test_vectors.md uses
"unless a vector says otherwise". -/
def params : Params where
  maxRecv := 1048576
  storeBytes := 1048576
  inbufBytes := 131072
  checkVersion := true

/-- `P_VERSION`, the version the encoder writes (R7, D11). -/
def version : BitVec 2 := 1

/-- `P_HDR_RESERVE_DGRAM` (R7, D7). -/
def hdrReserveDgram : BitVec 3 := 4

/-- `P_HDR_RESERVE_STREAM` (R7, D7). -/
def hdrReserveStream : BitVec 3 := 6

/-- Free value (log 2): the allocator oracle's `alloc_ok` at the given draw (R7, R231, I10). -/
opaque allocOk : Nat → Bool

/-- Free value (log 2, 15): how far above the need the allocator grows at the given draw, before it is brought into the range of
R231 (I11). -/
opaque allocAmount : Nat → Nat

/-- Free value (log 3): what a byte of INBUF or MS that nothing has written since the given reset reads as, by host address
(R49, I13). -/
opaque unwrittenByte : Nat → Nat → Byte

/-- Free value (log 4): what a host read of an unspecified store byte returns at the given draw (R72, I12). -/
opaque staleByte : Nat → Byte

end Config

end Sys2Proof
end

