-- ==== Sys2Proof/Syntax.lean ====
section
/-! DEFINITION. The instruction set: one constructor for each row of spec/opcode_table.json. -/

namespace Sys2Proof

/-- The transport class P: CMD[8], and PROTO (30_encoding R121, 10_state R26). -/
inductive Transport where
  | dgram
  | stream
  deriving DecidableEq, Repr

/-- The rows of the opcode table: the 21 commands of R120, of which four carry the transport class, and the seven wire forms of
30_encoding part 1. A wire form's fields are named as in the table: V version, T type, K token length, C code, M message id,
S selector, E extension value, D delta nibble, L length nibble. -/
inductive Instr where
  | nop
  | msgInit (p : Transport)
  | clear
  | resize
  | setType
  | setCode
  | setMid
  | hdrSize (p : Transport)
  | frameSize (p : Transport)
  | parse (p : Transport)
  | encodeHdr
  | addToken
  | updateToken
  | addOption
  | insertOption
  | updateOption
  | removeOption
  | iterInit
  | iterNext
  | addData
  | getData
  | wireDgramHeader (v t : BitVec 2) (k : BitVec 4) (c : Byte) (m : BitVec 16)
  | wireStreamHeaderS0to12 (s k : BitVec 4) (c : Byte)
  | wireStreamHeaderS13 (k : BitVec 4) (e : BitVec 8) (c : Byte)
  | wireStreamHeaderS14 (k : BitVec 4) (e : BitVec 16) (c : Byte)
  | wireStreamHeaderS15 (k : BitVec 4) (e : BitVec 32) (c : Byte)
  | wireOptionControl (d l : BitVec 4)
  | wirePayloadMarker
  deriving DecidableEq, Repr

end Sys2Proof
end

