-- ==== Sys2Proof/WellFormed.lean ====
section
/-! DEFINITION. The encodings the spec does not reserve, as a check on the instruction. -/

namespace Sys2Proof

/-- A token length field holds 0 to 8, "values 9–15 invalid" (30_encoding R103, R112). -/
def tokenLengthOk (k : BitVec 4) : Bool := k.toNat ≤ 8

/-- Nibble 15 is reserved inside an option (30_encoding R109). -/
def optionNibbleOk (k : BitVec 4) : Bool := k.toNat ≤ 14

/-- Well-formed instructions: every command is; a header's token length is legal (R112); the literal stream class has a selector
of at most 12 (R102); an option control byte uses no reserved nibble (R109). -/
def Instr.wellFormed : Instr → Bool
  | .nop => true
  | .msgInit _ => true
  | .clear => true
  | .resize => true
  | .setType => true
  | .setCode => true
  | .setMid => true
  | .hdrSize _ => true
  | .frameSize _ => true
  | .parse _ => true
  | .encodeHdr => true
  | .addToken => true
  | .updateToken => true
  | .addOption => true
  | .insertOption => true
  | .updateOption => true
  | .removeOption => true
  | .iterInit => true
  | .iterNext => true
  | .addData => true
  | .getData => true
  | .wireDgramHeader _ _ k _ _ => tokenLengthOk k
  | .wireStreamHeaderS0to12 s k _ => s.toNat ≤ 12 && tokenLengthOk k
  | .wireStreamHeaderS13 k _ _ => tokenLengthOk k
  | .wireStreamHeaderS14 k _ _ => tokenLengthOk k
  | .wireStreamHeaderS15 k _ _ => tokenLengthOk k
  | .wireOptionControl d l => optionNibbleOk d && optionNibbleOk l
  | .wirePayloadMarker => true

end Sys2Proof
end

