-- ==== Sys2Proof/Decode.lean ====
section
/-! DEFINITION. Byte-order helpers, the decoder from bytes to instructions, the encoder, and the numbering of the opcode table. -/

namespace Sys2Proof

/-! ### Bytes and nibbles (00_scope R10) -/

/-- `be16(x, y)` (R10). -/
def be16 (x y : Byte) : Nat := x.toNat * 256 + y.toNat

/-- `be32(w, x, y, z)` (R10). -/
def be32 (w x y z : Byte) : Nat := w.toNat * 16777216 + x.toNat * 65536 + y.toNat * 256 + z.toNat

/-- `be16bytes(v)` (R10). -/
def be16bytes (v : Nat) : List Byte := [BitVec.ofNat 8 (v / 256), BitVec.ofNat 8 v]

/-- `be32bytes(v)` (R10). -/
def be32bytes (v : Nat) : List Byte :=
  [BitVec.ofNat 8 (v / 16777216), BitVec.ofNat 8 (v / 65536), BitVec.ofNat 8 (v / 256), BitVec.ofNat 8 v]

/-- Bits [7:4] of a byte. -/
def hiNibble (b : Byte) : BitVec 4 := b.extractLsb' 4 4

/-- Bits [3:0] of a byte. -/
def loNibble (b : Byte) : BitVec 4 := b.extractLsb' 0 4

/-- The byte with the given high and low nibbles. -/
def packNibbles (hi lo : BitVec 4) : Byte := hi ++ lo

/-! ### The decoder -/

/-- Why bytes are no instruction. The first three end a command with ILLEGAL_COMMAND (30_encoding R122); the others are the
reserved wire forms (R109, R112) and bytes that stop short. -/
inductive DecodeError where
  | reservedBits
  | unassignedOpcode
  | transportBitReserved
  | truncated
  | tokenLength
  | reservedNibble
  deriving DecidableEq, Repr

/-- Where bytes stand decides how they are read: a word written to CMD (R121), the head of a datagram (R100), the head of a
stream frame (R101), or where an option's control byte stands (R107, R108). -/
inductive Place where
  | command
  | datagramHead
  | streamHead
  | optionPosition
  deriving DecidableEq, Repr

/-- The commands that take the transport class, by opcode (R120, column P). -/
def classCommand : Nat → Option (Transport → Instr)
  | 0x01 => some .msgInit
  | 0x10 => some .hdrSize
  | 0x11 => some .frameSize
  | 0x12 => some .parse
  | _ => none

/-- The commands without the transport class, by opcode (R120). -/
def plainCommand : Nat → Option Instr
  | 0x00 => some .nop
  | 0x02 => some .clear
  | 0x03 => some .resize
  | 0x04 => some .setType
  | 0x05 => some .setCode
  | 0x06 => some .setMid
  | 0x13 => some .encodeHdr
  | 0x20 => some .addToken
  | 0x21 => some .updateToken
  | 0x30 => some .addOption
  | 0x31 => some .insertOption
  | 0x32 => some .updateOption
  | 0x33 => some .removeOption
  | 0x34 => some .iterInit
  | 0x35 => some .iterNext
  | 0x40 => some .addData
  | 0x41 => some .getData
  | _ => none

/-- The command a word written to CMD selects (R121, R122). -/
def decodeCommand (w : Word) : Except DecodeError Instr :=
  if w.extractLsb' 9 23 ≠ 0 then .error .reservedBits
  else match classCommand (w.extractLsb' 0 8).toNat with
    | some f => .ok (f (if w.getLsbD 8 then .stream else .dgram))
    | none => match plainCommand (w.extractLsb' 0 8).toNat with
      | some i => if w.getLsbD 8 then .error .transportBitReserved else .ok i
      | none => .error .unassignedOpcode

/-- A stream header, from its first byte and the bytes after it, by selector class (R101, R102). -/
def decodeStreamHead (b0 : Byte) (bs : List Byte) : Except DecodeError (Instr × List Byte) :=
  if (hiNibble b0).toNat ≤ 12 then
    match bs with
    | c :: rest => .ok (.wireStreamHeaderS0to12 (hiNibble b0) (loNibble b0) c, rest)
    | _ => .error .truncated
  else if (hiNibble b0).toNat = 13 then
    match bs with
    | e0 :: c :: rest => .ok (.wireStreamHeaderS13 (loNibble b0) e0 c, rest)
    | _ => .error .truncated
  else if (hiNibble b0).toNat = 14 then
    match bs with
    | e0 :: e1 :: c :: rest => .ok (.wireStreamHeaderS14 (loNibble b0) (e0 ++ e1) c, rest)
    | _ => .error .truncated
  else
    match bs with
    | e0 :: e1 :: e2 :: e3 :: c :: rest => .ok (.wireStreamHeaderS15 (loNibble b0) (e0 ++ e1 ++ e2 ++ e3) c, rest)
    | _ => .error .truncated

/-- The decoder, total on any bytes at any place: the instruction and the bytes after it, or why there is none. A command word's
four bytes are taken most significant first (log 13). -/
def decode : Place → List Byte → Except DecodeError (Instr × List Byte)
  | .command, b0 :: b1 :: b2 :: b3 :: rest =>
    match decodeCommand (b0 ++ b1 ++ b2 ++ b3) with
    | .ok i => .ok (i, rest)
    | .error e => .error e
  | .command, _ => .error .truncated
  | .datagramHead, b0 :: rest =>
    if tokenLengthOk (loNibble b0) then
      match rest with
      | c :: m1 :: m0 :: rest =>
        .ok (.wireDgramHeader (b0.extractLsb' 6 2) (b0.extractLsb' 4 2) (loNibble b0) c (m1 ++ m0), rest)
      | _ => .error .truncated
    else .error .tokenLength
  | .datagramHead, [] => .error .truncated
  | .streamHead, b0 :: rest =>
    if tokenLengthOk (loNibble b0) then decodeStreamHead b0 rest else .error .tokenLength
  | .streamHead, [] => .error .truncated
  | .optionPosition, c :: rest =>
    if c = 0xFF then .ok (.wirePayloadMarker, rest)
    else if optionNibbleOk (hiNibble c) && optionNibbleOk (loNibble c) then
      .ok (.wireOptionControl (hiNibble c) (loNibble c), rest)
    else .error .reservedNibble
  | .optionPosition, [] => .error .truncated

/-! ### The encoder -/

/-- CMD[8] for a transport class (R121). -/
def classBit : Transport → Nat
  | .dgram => 0
  | .stream => 256

/-- A command word's bytes: OP in [7:0], P in [8], zero above (R121). -/
def commandBytes (op : Nat) (p : Transport) : List Byte := be32bytes (classBit p + op)

/-- The bytes of a 16-bit field, most significant first (R74). -/
def bytes16 (v : BitVec 16) : List Byte := [v.extractLsb' 8 8, v.extractLsb' 0 8]

/-- The bytes of a 32-bit field, most significant first (R74). -/
def bytes32 (v : Word) : List Byte := [v.extractLsb' 24 8, v.extractLsb' 16 8, v.extractLsb' 8 8, v.extractLsb' 0 8]

/-- Where each instruction's bytes stand. -/
def Instr.place : Instr → Place
  | .wireDgramHeader .. => .datagramHead
  | .wireStreamHeaderS0to12 .. => .streamHead
  | .wireStreamHeaderS13 .. => .streamHead
  | .wireStreamHeaderS14 .. => .streamHead
  | .wireStreamHeaderS15 .. => .streamHead
  | .wireOptionControl .. => .optionPosition
  | .wirePayloadMarker => .optionPosition
  | _ => .command

/-- The bytes of an instruction (R100 to R102, R107, R108, R120, R121). -/
def encode : Instr → List Byte
  | .nop => commandBytes 0x00 .dgram
  | .msgInit p => commandBytes 0x01 p
  | .clear => commandBytes 0x02 .dgram
  | .resize => commandBytes 0x03 .dgram
  | .setType => commandBytes 0x04 .dgram
  | .setCode => commandBytes 0x05 .dgram
  | .setMid => commandBytes 0x06 .dgram
  | .hdrSize p => commandBytes 0x10 p
  | .frameSize p => commandBytes 0x11 p
  | .parse p => commandBytes 0x12 p
  | .encodeHdr => commandBytes 0x13 .dgram
  | .addToken => commandBytes 0x20 .dgram
  | .updateToken => commandBytes 0x21 .dgram
  | .addOption => commandBytes 0x30 .dgram
  | .insertOption => commandBytes 0x31 .dgram
  | .updateOption => commandBytes 0x32 .dgram
  | .removeOption => commandBytes 0x33 .dgram
  | .iterInit => commandBytes 0x34 .dgram
  | .iterNext => commandBytes 0x35 .dgram
  | .addData => commandBytes 0x40 .dgram
  | .getData => commandBytes 0x41 .dgram
  | .wireDgramHeader v t k c m => (v ++ t ++ k) :: c :: bytes16 m
  | .wireStreamHeaderS0to12 s k c => [packNibbles s k, c]
  | .wireStreamHeaderS13 k e c => [packNibbles 13 k, e, c]
  | .wireStreamHeaderS14 k e c => packNibbles 14 k :: bytes16 e ++ [c]
  | .wireStreamHeaderS15 k e c => packNibbles 15 k :: bytes32 e ++ [c]
  | .wireOptionControl d l => [packNibbles d l]
  | .wirePayloadMarker => [0xFF]

/-- The word that writes a command to CMD: the number its four bytes spell, most significant first. -/
def commandWord (i : Instr) : Word :=
  match encode i with
  | [b0, b1, b2, b3] => b0 ++ b1 ++ b2 ++ b3
  | _ => 0

/-! ### The opcode table's numbering -/

/-- The n low bytes of a number, most significant first: the table numbers a row as one number whose top byte is byte 0
(98_reader.md; log 10). -/
def tableBytes : Nat → Nat → List Byte
  | 0, _ => []
  | n + 1, w => BitVec.ofNat 8 (w / 256 ^ n) :: tableBytes n w

/-- The instruction that stands at a place and fills the bytes exactly. -/
def decodeWhole (p : Place) (b : List Byte) : Option Instr :=
  match decode p b with
  | .ok (i, []) => some i
  | _ => none

/-- The instruction of a table row's bits. One byte stands at an option position; two, three and six bytes are stream headers;
four bytes are a command word where they spell one, and otherwise the selector-14 stream header or a version-1 datagram
header (log 10). -/
def decodeTableWord (nbits w : Nat) : Option Instr :=
  match nbits with
  | 8 => decodeWhole .optionPosition (tableBytes 1 w)
  | 16 => decodeWhole .streamHead (tableBytes 2 w)
  | 24 => decodeWhole .streamHead (tableBytes 3 w)
  | 48 => decodeWhole .streamHead (tableBytes 6 w)
  | 32 =>
    match decodeWhole .command (tableBytes 4 w) with
    | some i => some i
    | none =>
      if w / 268435456 = 14 then decodeWhole .streamHead (tableBytes 4 w)
      else if w / 1073741824 = 1 then decodeWhole .datagramHead (tableBytes 4 w)
      else none
  | _ => none

end Sys2Proof
end

