-- ==== Sys2Proof/Machine/State.lean ====
section
/-! DEFINITION. The machine's state as plain data, the reasons a step can stop, and the state after reset. -/

namespace Sys2Proof.Machine

/-- The completion codes of 60_exceptions R270, in the order of their numbers 0 to 12. STATUS.CODE holds one of them: "Codes 13 to
255 are never written." -/
inductive Completion where
  | ok
  | malformedHeader
  | sizeExceeded
  | allocFailure
  | invalidOrder
  | duplicateExchange
  | notARequest
  | malformedOption
  | badArgument
  | notFound
  | iterInvalid
  | illegalCommand
  | headerSpace
  deriving DecidableEq, Repr

/-- The width of a host access (20_memory R77). -/
inductive AccessSize where
  | byte
  | half
  | word
  deriving DecidableEq, Repr

/-- What the outside does to the block: the host's reads and writes (20_memory R70 to R72, R77) and the reset event (70 R301). -/
inductive HostAccess where
  | read (size : AccessSize) (addr : Word)
  | write (size : AccessSize) (addr data : Word)
  | reset
  deriving DecidableEq, Repr

/-- INBUF and MS as one list of cells by host address, addresses strictly rising. An address that is not listed holds no value of
its own: it reads as a free value (log 3). -/
abbrev Memory := List Host.Cell

/-- The canonical form: strictly rising addresses. No unlisted address has a value, so no entry can equal one. -/
abbrev Memory.wf (m : Memory) : Prop := (m.map Prod.fst).Pairwise (· < ·)

/-- Why the machine stops with a fault. -/
inductive Fault where
  /-- Raised by the option commands, ADD_DATA, GET_DATA, ITER_NEXT and by reads of MSG_CTRL and DATA_OFF when the stored body does
  not decode. 10_state R41 says the stored body always decodes, so no reachable state raises it. Safe (log 14). -/
  | bodyMalformed
  deriving DecidableEq, Repr

/-- Why a step has no meaning. -/
inductive Refusal where
  /-- Raised by exec's arms of instructions that have no meaning yet (none is left). Safe. -/
  | notModelled (mnemonic : String)
  /-- Raised by a host access of a size or alignment that 20_memory R77 refuses: "the model gives it no step". Safe (log 8, 19). -/
  | accessSize
  deriving DecidableEq, Repr

/-- The state of 10_state R20 and R21, register by register. The last four fields are the model's own. -/
structure State where
  /-- CMD (R22). -/
  cmd : Word
  /-- ARG0 (R23). -/
  arg0 : Word
  /-- ARG1 (R23). -/
  arg1 : Word
  /-- STATUS.CODE (R24). -/
  status : Completion
  /-- RES0 (R25). -/
  res0 : Word
  /-- RES1 (R25). -/
  res1 : Word
  /-- RES2 (R25). -/
  res2 : Word
  /-- RES3 (R25). -/
  res3 : Word
  /-- PROTO (R26). -/
  proto : Transport
  /-- MAX_HDR, the header reservation and the store offset of the body (R27). -/
  maxHdr : BitVec 3
  /-- HDR_SIZE (R28). -/
  hdrSize : BitVec 3
  /-- HDR_VALID (R28). -/
  hdrValid : Bool
  /-- IT_VALID (R32). -/
  itValid : Bool
  /-- IT_POS (R32). -/
  itPos : Word
  /-- IT_NUM (R32). -/
  itNum : BitVec 16
  /-- TYPE (R29). -/
  msgType : BitVec 2
  /-- TKL (R29). -/
  tkl : BitVec 4
  /-- CODE (R29). -/
  msgCode : Byte
  /-- MID (R29). -/
  msgId : BitVec 16
  /-- USED (R30). -/
  used : Word
  /-- ALLOC (R30). -/
  alloc : Word
  /-- MAX (R30). -/
  maxSize : Word
  /-- CFG_MAX_RECV, CFG_STORE, CFG_INBUF and CFG_FLAGS (R33). -/
  cfg : Params
  /-- INBUF (R35) and MS (R36). -/
  mem : Memory
  /-- The model's own: the host's pending accesses, oldest first (log 6). -/
  host : List HostAccess
  /-- The model's own: the value the last host read returned (log 6). -/
  rdata : Word
  /-- The model's own: how many draws the environment has made (log 5). -/
  draws : Nat
  /-- The model's own: how many reset events there have been (log 5). -/
  epoch : Nat
  deriving DecidableEq, Repr

/-- The state after reset (10_state R49, 70 R300) of a block with the given parameters. -/
def State.resetWith (p : Params) : State where
  cmd := 0
  arg0 := 0
  arg1 := 0
  status := .ok
  res0 := 0
  res1 := 0
  res2 := 0
  res3 := 0
  proto := .dgram
  maxHdr := 4
  hdrSize := 0
  hdrValid := false
  itValid := false
  itPos := 0
  itNum := 0
  msgType := 0
  tkl := 0
  msgCode := 0
  msgId := 0
  used := 0
  alloc := 0
  maxSize := 0
  cfg := p
  mem := []
  host := []
  rdata := 0
  draws := 0
  epoch := 0

/-- The state after reset, with the parameters of log 1. -/
def State.reset : State := State.resetWith Config.params

end Sys2Proof.Machine
end

