-- ==== Sys2Proof/Machine/Memory.lean ====
section
/-! DEFINITION. Memory: one byte, byte sequences, and the two byte arrays INBUF and MS in it (00_scope R12, 20_memory R70 to R73). -/

namespace Sys2Proof.Machine

/-- The byte stored at an address, if one is. -/
def Memory.read : Memory → Nat → Option Byte
  | [], _ => none
  | (k, b) :: m, a => if k = a then some b else Memory.read m a

/-- Stores a byte, keeping the addresses strictly rising. -/
def Memory.write : Memory → Nat → Byte → Memory
  | [], a, b => [(a, b)]
  | (k, c) :: m, a, b =>
    if a < k then (a, b) :: (k, c) :: m
    else if a = k then (a, b) :: m
    else (k, c) :: Memory.write m a b

/-- Stores a byte sequence at rising addresses. -/
def Memory.writeBytes : Memory → Nat → List Byte → Memory
  | m, _, [] => m
  | m, a, b :: bs => Memory.writeBytes (Memory.write m a b) (a + 1) bs

/-- Forgets every byte from an address on: those bytes become unspecified. -/
def Memory.dropFrom (m : Memory) (a : Nat) : Memory := m.filter fun c => decide (c.1 < a)

/-- Host address of IN(0) (20_memory R71). -/
def inbufBase : Nat := 0x40000000

/-- Host address of MS(0) (20_memory R72). -/
def storeBase : Nat := 0x80000000

/-- What the machine reads at an address: the byte stored there, or a free value where nothing has been written since reset
(R49, I13; log 3). -/
def State.peek (s : State) (a : Nat) : Byte :=
  (s.mem.read a).getD (Config.unwrittenByte s.epoch a)

/-- The n bytes from an address on. -/
def State.readBytes (s : State) : Nat → Nat → List Byte
  | _, 0 => []
  | a, n + 1 => s.peek a :: State.readBytes s (a + 1) n

/-- `IN(i)` (R12). -/
def State.inByte (s : State) (i : Nat) : Byte := s.peek (inbufBase + i)

/-- `InRead(a, n)` (R12). -/
def State.inRead (s : State) (a n : Nat) : List Byte := s.readBytes (inbufBase + a) n

/-- `MS(o)` (R12). -/
def State.storeByte (s : State) (o : Nat) : Byte := s.peek (storeBase + o)

/-- `MemRead(o, n)` (R12). -/
def State.memRead (s : State) (o n : Nat) : List Byte := s.readBytes (storeBase + o) n

/-- `MemWrite(o, |v|, v)` on the memory (R12). -/
def Memory.memWrite (m : Memory) (o : Nat) (v : List Byte) : Memory := m.writeBytes (storeBase + o) v

/-- The store bytes from an offset on become unspecified (43 R230; log 17). -/
def Memory.storeForget (m : Memory) (o : Nat) : Memory := m.dropFrom (storeBase + o)

end Sys2Proof.Machine
end

