-- ==== Sys2Proof/Machine/Wire.lean ====
section
/-! DEFINITION. The wire formats as pure functions: the extension scheme (30_encoding R104, R105), the header codec (40 R140 to
R142) and the option codec (41 R180 to R185). -/

namespace Sys2Proof.Machine

/-! ### The extension scheme -/

/-- `ExtEnc(v)` (R104): the smallest form of an option delta or length. -/
def extEnc (v : Nat) : Option (BitVec 4 × List Byte) :=
  if v ≤ 12 then some (BitVec.ofNat 4 v, [])
  else if v ≤ 268 then some (13, [BitVec.ofNat 8 (v - 13)])
  else if v ≤ 65804 then some (14, be16bytes (v - 269))
  else none

/-- `ExtEncHdr(v)` (R104): the same with the stream header's four-byte class. -/
def extEncHdr (v : Nat) : Option (BitVec 4 × List Byte) :=
  if v ≤ 65804 then extEnc v
  else if v ≤ 65805 + 0xFFFFFFFF then some (15, be32bytes (v - 65805))
  else none

/-- `ExtLen(k)` (R105); 4 for nibble 15 is the stream header's. -/
def extLen (k : BitVec 4) : Nat :=
  if k.toNat ≤ 12 then 0 else if k.toNat = 13 then 1 else if k.toNat = 14 then 2 else 4

/-- `ExtDec(k, e)` (R105), for |e| = ExtLen(k). -/
def extDec (k : BitVec 4) (e : List Byte) : Nat :=
  if k.toNat ≤ 12 then k.toNat
  else if k.toNat = 13 then (e.getD 0 0).toNat + 13
  else if k.toNat = 14 then be16 (e.getD 0 0) (e.getD 1 0) + 269
  else be32 (e.getD 0 0) (e.getD 1 0) (e.getD 2 0) (e.getD 3 0) + 65805

/-! ### The header codec -/

/-- `HdrSizeOf(P, b0)` (R141). -/
def hdrSizeOf (p : Transport) (b0 : Byte) : Nat :=
  match p with
  | .dgram => 4
  | .stream => 2 + extLen (hiNibble b0)

/-- The record HdrDecode returns (R140). -/
structure Header where
  hs : Nat
  tkl : Nat
  ver : BitVec 2
  type : BitVec 2
  code : Option Byte
  mid : BitVec 16
  body : Nat
  total : Nat
  deriving DecidableEq, Repr

/-- `HdrDecode(P, b, n)` (R140) with n = |b|, the receive ceiling and the version check as arguments. The checks stand in the
rule's order. -/
def hdrDecode (maxRecv : Nat) (checkVersion : Bool) (p : Transport) (b : List Byte) : Except Completion Header :=
  match b with
  | [] => .error .malformedHeader
  | b0 :: bs =>
    if 8 < (loNibble b0).toNat then .error .malformedHeader
    else match p with
      | .dgram =>
        match bs with
        | b1 :: b2 :: b3 :: _ =>
          if checkVersion && b0.extractLsb' 6 2 != Config.version then .error .malformedHeader
          else if maxRecv < b.length then .error .sizeExceeded
          else .ok {
            hs := 4, tkl := (loNibble b0).toNat, ver := b0.extractLsb' 6 2, type := b0.extractLsb' 4 2, code := some b1,
            mid := BitVec.ofNat 16 (be16 b2 b3), body := b.length - 4, total := b.length }
        | _ => .error .malformedHeader
      | .stream =>
        if b.length < 1 + extLen (hiNibble b0) then .error .malformedHeader
        else
          let len := extDec (hiNibble b0) (bs.take (extLen (hiNibble b0)))
          let hs := 2 + extLen (hiNibble b0)
          if maxRecv < hs + (loNibble b0).toNat + len then .error .sizeExceeded
          else .ok {
            hs := hs, tkl := (loNibble b0).toNat, ver := 0, type := 0, code := b[hs - 1]?, mid := 0,
            body := (loNibble b0).toNat + len, total := hs + (loNibble b0).toNat + len }

/-- `HdrEncode(P, type, tkl, code, mid, clen)` (R142). -/
def hdrEncode (p : Transport) (type : BitVec 2) (tkl : BitVec 4) (code : Byte) (mid : BitVec 16) (clen : Nat) :
    Except Completion (List Byte) :=
  match p with
  | .dgram => .ok [Config.version ++ type ++ tkl, code, mid.extractLsb' 8 8, mid.extractLsb' 0 8]
  | .stream =>
    match extEncHdr clen with
    | none => .error .sizeExceeded
    | some (sel, ext) => .ok (packNibbles sel tkl :: ext ++ [code])

/-! ### The option codec -/

/-- An option entry: its number and its value (R40). -/
abbrev Opt := Nat × List Byte

/-- One turn of R180's loop after the marker test: the entry whose control byte is c, and the bytes after it. num is the number
of the entry before. -/
def decodeEntry (num : Nat) (c : Byte) (r : List Byte) : Option (Opt × List Byte) :=
  if hiNibble c = 15 ∨ loNibble c = 15 then none
  else if r.length < extLen (hiNibble c) then none
  else
    let delta := extDec (hiNibble c) (r.take (extLen (hiNibble c)))
    let r1 := r.drop (extLen (hiNibble c))
    if r1.length < extLen (loNibble c) then none
    else
      let len := extDec (loNibble c) (r1.take (extLen (loNibble c)))
      let r2 := r1.drop (extLen (loNibble c))
      if 65535 < num + delta ∨ 65535 < len then none
      else if r2.length < len then none
      else some ((num + delta, r2.take len), r2.drop len)

/-- R180's loop. Each turn takes at least one byte, so |r| turns are enough. -/
def decodeOptionsLoop : Nat → Nat → List Byte → Option (List Opt × List Byte)
  | _, _, [] => some ([], [])
  | 0, _, _ :: _ => none
  | fuel + 1, num, c :: r =>
    if c = 0xFF then (if r = [] then none else some ([], r))
    else match decodeEntry num c r with
      | none => none
      | some (o, r') =>
        match decodeOptionsLoop fuel o.1 r' with
        | none => none
        | some (os, p) => some (o :: os, p)

/-- `DecodeOptions(r)` (R180): the options and the payload of the bytes after the token. -/
def decodeOptions (r : List Byte) : Option (List Opt × List Byte) := decodeOptionsLoop r.length 0 r

/-- The form of an option delta or length in an entry. R182: "Each delta and each length has a form, because both are at most
65535 ≤ 65804", so the fallback is never used. -/
def extForm (v : Nat) : BitVec 4 × List Byte := (extEnc v).getD (15, [])

/-- One entry of R182: control byte, delta extension, length extension, value. -/
def encodeEntry (delta : Nat) (v : List Byte) : List Byte :=
  packNibbles (extForm delta).1 (extForm v.length).1 :: (extForm delta).2 ++ (extForm v.length).2 ++ v

/-- `EncodeOptions(O)` (R182) after an entry numbered prev. -/
def encodeOptionsFrom : Nat → List Opt → List Byte
  | _, [] => []
  | prev, (n, v) :: os => encodeEntry (n - prev) v ++ encodeOptionsFrom n os

/-- `EncodeOptions(O)` (R182). -/
def encodeOptions (os : List Opt) : List Byte := encodeOptionsFrom 0 os

/-- `RebuildRest(O, p)` (R182): the marker is written only before a payload. -/
def rebuildRest (os : List Opt) (p : List Byte) : List Byte :=
  encodeOptions os ++ (if p = [] then [] else 0xFF :: p)

/-- `EntryLen(d, L)` (R183). -/
def entryLen (d len : Nat) : Nat := 1 + (extForm d).2.length + (extForm len).2.length + len

/-- `InsertPos(O, n)` (R185): before the first entry of strictly greater number. -/
def insertPos (os : List Opt) (n : Nat) : Nat := os.findIdx fun o => decide (n < o.1)

/-- The number of the entry before index k, 0 if there is none (R190). -/
def prevNumber (os : List Opt) (k : Nat) : Nat :=
  match (os.take k).getLast? with
  | some o => o.1
  | none => 0

/-- The options with (n, v) inserted at index k (R190). -/
def insertAt (os : List Opt) (k n : Nat) (v : List Byte) : List Opt := os.take k ++ (n, v) :: os.drop k

/-- The index of the first entry with number n, if there is one (R192, R193). -/
def firstWith (os : List Opt) (n : Nat) : Option Nat := os.findIdx? fun o => decide (o.1 = n)

end Sys2Proof.Machine
end

