-- ==== Sys2Proof/Machine/Operands.lean ====
section
/-! DEFINITION. Every operand form a command has (30_encoding R121: ARG0, ARG1, the first bytes of INBUF) and the operand ranges
(60 R272 point 2, D38). -/

namespace Sys2Proof.Machine

/-- ARG0 as a number. -/
def State.a0 (s : State) : Nat := s.arg0.toNat

/-- ARG1 as a number. -/
def State.a1 (s : State) : Nat := s.arg1.toNat

/-- A byte count operand fits INBUF (D38). -/
def State.countOk (s : State) (n : Nat) : Bool := n ≤ s.cfg.inbufBytes.toNat

/-- A token length operand is in range (43 R250, R251). -/
def State.tokenArgOk (s : State) : Bool := s.a0 ≤ 8 && s.countOk s.a0

/-- An option number operand is in range (41 R190). -/
def State.numberArgOk (s : State) : Bool := s.a0 ≤ 65535

/-- The option number and value length operands are in range (41 R190). -/
def State.optionArgsOk (s : State) : Bool := s.numberArgOk && (s.a1 ≤ 65535 && s.countOk s.a1)

/-- The bytes ARG0 counts: a frame, a token or a payload. -/
def State.bytes0 (s : State) : List Byte := s.inRead 0 s.a0

/-- The bytes ARG1 counts: an option value. -/
def State.bytes1 (s : State) : List Byte := s.inRead 0 s.a1

end Sys2Proof.Machine
end

