-- ==== Sys2Proof/Machine/Flags.lean ====
section
/-! DEFINITION. The views of the stored message (10_state R39 to R46) and what sets and clears the status flags (R47). -/

namespace Sys2Proof.Machine

/-! ### Views -/

/-- `Body` (R39). -/
def State.body (s : State) : List Byte := s.memRead s.maxHdr.toNat s.used.toNat

/-- `Token` (R39). -/
def State.token (s : State) : List Byte := s.body.take s.tkl.toNat

/-- `Rest` (R39): options, marker and payload. -/
def State.rest (s : State) : List Byte := s.body.drop s.tkl.toNat

/-- `(Opts, Payload)` (R40), or none where the stored body does not decode (log 14). -/
def State.contents (s : State) : Option (List Opt × List Byte) := decodeOptions s.rest

/-- DATA_PRESENT for a payload (R43): present when non-empty. -/
def dataPresent (p : List Byte) : Bool := p != []

/-- DATA_OFF for a payload (R44). -/
def State.dataOff (s : State) (p : List Byte) : Nat :=
  if dataPresent p then s.maxHdr.toNat + s.used.toNat - p.length else 0

/-- `Limit` (R45). -/
def State.limit (s : State) : Nat := if s.maxSize = 0 then s.cfg.maxRecv.toNat else s.maxSize.toNat

/-- CODE_CLASS (R46). -/
def codeClass (c : Byte) : BitVec 3 :=
  if c.toNat = 0 then 0
  else if c.toNat ≤ 31 then 1
  else if c.toNat ≤ 63 then 4
  else if c.toNat ≤ 223 then 2
  else 3

/-- The number of a completion code (R270). -/
def Completion.number : Completion → Byte
  | .ok => 0
  | .malformedHeader => 1
  | .sizeExceeded => 2
  | .allocFailure => 3
  | .invalidOrder => 4
  | .duplicateExchange => 5
  | .notARequest => 6
  | .malformedOption => 7
  | .badArgument => 8
  | .notFound => 9
  | .iterInvalid => 10
  | .illegalCommand => 11
  | .headerSpace => 12

/-! ### Flags -/

/-- A changed body makes the header and the iterator stale (R28, R32, R47); HDR_SIZE, IT_POS and IT_NUM stay. -/
def State.bodyChanged (s : State) : State := { s with hdrValid := false, itValid := false }

/-- A changed header field makes the header stale and keeps the iterator (R28, R47). -/
def State.headerFieldChanged (s : State) : State := { s with hdrValid := false }

/-- MSG_INIT and CLEAR put the header, the iterator and the message's content at zero (R240, R241). -/
def State.emptied (s : State) : State :=
  { s with hdrSize := 0, hdrValid := false, itValid := false, itPos := 0, itNum := 0, msgType := 0, tkl := 0, msgCode := 0,
           msgId := 0, used := 0 }

/-- What a write of TYPE or MID stores: 0 on a STREAM message (R31). -/
def onDgram (p : Transport) {w : Nat} (v : BitVec w) : BitVec w :=
  match p with
  | .dgram => v
  | .stream => 0

end Sys2Proof.Machine
end

