-- ==== Sys2Proof/Machine/Ops.lean ====
section
/-! DEFINITION. The operations the commands share: completing, failing (the block's one exception entry), growing the store and
committing a body (00_scope R13, 43 R230 and R231, 60 R273 and R279). -/

namespace Sys2Proof.Machine

/-- What a command or a step ends in. -/
abbrev Result := Host.Outcome State Fault Refusal

/-- The four result registers (R25). -/
def State.setRes (s : State) (r0 r1 r2 r3 : Nat) : State :=
  { s with res0 := BitVec.ofNat 32 r0, res1 := BitVec.ofNat 32 r1, res2 := BitVec.ofNat 32 r2, res3 := BitVec.ofNat 32 r3 }

/-- `finish(r0, r1, r2, r3)` (R13): OK and the results, over the state with the command's writes. -/
def State.finish (s : State) (r0 r1 r2 r3 : Nat) : State := { s with status := .ok }.setRes r0 r1 r2 r3

/-- `raise CODE` (R13, R273): the block's exception entry. "Trap entry is the write of STATUS and RES of rule R273. Nothing is
saved, no mode changes, there is no vector, no handler and no stack" (R279), and there is no return from it (R280). -/
def State.raise (s : State) (c : Completion) : State := { s with status := c }.setRes 0 0 0 0

/-- The header reservation of a transport class (R27). -/
def hdrReserve : Transport → BitVec 3
  | .dgram => Config.hdrReserveDgram
  | .stream => Config.hdrReserveStream

/-- What the allocator answers: the capacity, or none for ALLOC_FAILURE, and the draws used up. -/
structure Grant where
  capacity : Option Nat
  draws : Nat
  deriving DecidableEq, Repr

/-- A free value brought into a range: every number of [lo, hi] is the answer for some draw (log 15). -/
def drawIn (lo hi x : Nat) : Nat := lo + x % (hi - lo + 1)

/-- `Grow(need)` (R231): the capacity ALLOC takes if the command commits. -/
def State.grow (s : State) (need : Nat) : Grant :=
  if need ≤ s.alloc.toNat then ⟨some s.alloc.toNat, s.draws⟩
  else if s.cfg.storeBytes.toNat < need then ⟨none, s.draws⟩
  else if Config.allocOk s.draws then
    ⟨some (drawIn need (min s.limit s.cfg.storeBytes.toNat) (Config.allocAmount s.draws)), s.draws + 1⟩
  else ⟨none, s.draws + 1⟩

/-- The allocator asked for an exact capacity, as MSG_INIT and RESIZE do (R240, R242): refused above P_STORE_BYTES without a
draw, and otherwise as the oracle answers. -/
def State.growExact (s : State) (need : Nat) : Grant :=
  if s.cfg.storeBytes.toNat < need then ⟨none, s.draws⟩
  else if Config.allocOk s.draws then ⟨some need, s.draws + 1⟩
  else ⟨none, s.draws + 1⟩

/-- The state with the given number of draws used up. -/
def State.drawn (s : State) (n : Nat) : State := { s with draws := n }

/-- The writes of CommitBody (R230): the body's bytes, USED, TKL, ALLOC, and the flags; store bytes after the body become
unspecified. -/
def State.putBody (s : State) (nb : List Byte) (ntkl a : Nat) : State :=
  { s with
    mem := (s.mem.memWrite s.maxHdr.toNat nb).storeForget (s.maxHdr.toNat + nb.length)
    used := BitVec.ofNat 32 nb.length
    tkl := BitVec.ofNat 4 ntkl
    alloc := BitVec.ofNat 32 a }.bodyChanged

/-- `CommitBody(nb, ntkl)` (R230) followed by `finish(r0, r1)`. -/
def State.commitBody (s : State) (nb : List Byte) (ntkl r0 r1 : Nat) : State :=
  if s.limit < nb.length then s.raise .sizeExceeded
  else match s.grow nb.length with
    | ⟨none, d⟩ => (s.drawn d).raise .allocFailure
    | ⟨some a, d⟩ => ((s.drawn d).putBody nb ntkl a).finish r0 r1 0 0

/-- A command that reads the logical views of the body (R40). The stored body always decodes (R41); where it does not, the
machine stops (log 14). -/
def State.withContents (s : State) (f : List Opt → List Byte → State) : Result :=
  match s.contents with
  | some (os, p) => .next (f os p)
  | none => .fault .bodyMalformed

end Sys2Proof.Machine
end

