-- ==== Sys2Proof/Machine/HeaderCodec.lean ====
section
/-! DEFINITION. The header codec's commands (40_header_codec R150 to R153) and the wire header rows (30_encoding R100 to R102). -/

namespace Sys2Proof.Machine

/-- HDR_SIZE (R150). -/
def execHdrSize (p : Transport) (s : State) : Result := .next (s.finish (hdrSizeOf p (s.inByte 0)) 0 0 0)

/-- `HdrDecode` under the block's parameters (R140). -/
def State.readHeader (s : State) (p : Transport) (b : List Byte) : Except Completion Header :=
  hdrDecode s.cfg.maxRecv.toNat s.cfg.checkVersion p b

/-- What the Header Codec reports for the first bytes of a frame (R151): header size, body length, frame length, token length,
or HdrDecode's failure. -/
def State.reportHeader (s : State) (p : Transport) (b : List Byte) : State :=
  match s.readHeader p b with
  | .error c => s.raise c
  | .ok h => s.finish h.hs h.body h.total h.tkl

/-- FRAME_SIZE (R151). -/
def execFrameSize (p : Transport) (s : State) : Result :=
  if !s.countOk s.a0 then .next (s.raise .badArgument)
  else .next (s.reportHeader p s.bytes0)

/-- The bytes a decoded frame takes of those given (R152): all of a datagram, the declared length of a stream frame. -/
def frameLength (p : Transport) (n : Nat) (h : Header) : Nat :=
  match p with
  | .dgram => n
  | .stream => h.total

/-- A frame stops short (R152): a datagram shorter than its token, a stream frame shorter than it declares. -/
def frameTruncated (p : Transport) (n : Nat) (h : Header) : Bool :=
  match p with
  | .dgram => n - 4 < h.tkl
  | .stream => n < h.total

/-- The writes of PARSE (R152): the frame's own header bytes before the body, the body, and the registers. Store bytes after the
body become unspecified (R38; log 17). A frame that is not truncated has its code byte, so the fallback is never used. -/
def State.putFrame (s : State) (p : Transport) (h : Header) (hdr body : List Byte) (a : Nat) : State :=
  { s with
    mem := ((s.mem.memWrite ((hdrReserve p).toNat - h.hs) hdr).memWrite (hdrReserve p).toNat body).storeForget
      ((hdrReserve p).toNat + body.length)
    proto := p
    maxHdr := hdrReserve p
    hdrSize := BitVec.ofNat 3 h.hs
    hdrValid := true
    tkl := BitVec.ofNat 4 h.tkl
    msgCode := h.code.getD 0
    msgType := onDgram p h.type
    msgId := onDgram p h.mid
    used := BitVec.ofNat 32 body.length
    alloc := BitVec.ofNat 32 a
    itValid := false }

/-- PARSE from the decoded header on (R152): truncation, options, the message ceiling, allocation, and the commit. -/
def State.parseBody (s : State) (p : Transport) (b : List Byte) (h : Header) : State :=
  if frameTruncated p b.length h then s.raise .malformedHeader
  else
    let f := frameLength p b.length h
    let body := (b.take f).drop h.hs
    match decodeOptions (body.drop h.tkl) with
    | none => s.raise .malformedOption
    | some (os, payload) =>
      if s.limit < body.length then s.raise .sizeExceeded
      else match s.grow body.length with
        | ⟨none, d⟩ => (s.drawn d).raise .allocFailure
        | ⟨some a, d⟩ =>
          ((s.drawn d).putFrame p h (b.take h.hs) body a).finish f body.length os.length payload.length

/-- PARSE (R152). -/
def execParse (p : Transport) (s : State) : Result :=
  if !s.countOk s.a0 then .next (s.raise .badArgument)
  else match s.readHeader p s.bytes0 with
    | .error c => .next (s.raise c)
    | .ok h => .next (s.parseBody p s.bytes0 h)

/-- The writes of ENCODE_HDR (R153): the header right before the body, HDR_SIZE and HDR_VALID. -/
def State.putHeader (s : State) (r : List Byte) : State :=
  { s with
    mem := s.mem.memWrite (s.maxHdr.toNat - r.length) r
    hdrSize := BitVec.ofNat 3 r.length
    hdrValid := true }

/-- ENCODE_HDR (R153). -/
def execEncodeHdr (s : State) : Result :=
  match hdrEncode s.proto s.msgType s.tkl s.msgCode s.msgId (s.used.toNat - s.tkl.toNat) with
  | .error c => .next (s.raise c)
  | .ok r =>
    if s.maxHdr.toNat < r.length then .next (s.raise .headerSpace)
    else .next ((s.putHeader r).finish r.length (s.maxHdr.toNat - r.length) (r.length + s.used.toNat) 0)

/-! The wire header rows (log 9): what the Header Codec reports when it meets exactly this header. -/

/-- A datagram header (R100). -/
def execWireDgramHeader (v t : BitVec 2) (k : BitVec 4) (c : Byte) (m : BitVec 16) (s : State) : Result :=
  .next (s.reportHeader .dgram (encode (.wireDgramHeader v t k c m)))

/-- A stream header with a literal length (R102). -/
def execWireStreamHeaderS0to12 (sel k : BitVec 4) (c : Byte) (s : State) : Result :=
  .next (s.reportHeader .stream (encode (.wireStreamHeaderS0to12 sel k c)))

/-- A stream header with one extension byte (R102). -/
def execWireStreamHeaderS13 (k : BitVec 4) (e : BitVec 8) (c : Byte) (s : State) : Result :=
  .next (s.reportHeader .stream (encode (.wireStreamHeaderS13 k e c)))

/-- A stream header with two extension bytes (R102). -/
def execWireStreamHeaderS14 (k : BitVec 4) (e : BitVec 16) (c : Byte) (s : State) : Result :=
  .next (s.reportHeader .stream (encode (.wireStreamHeaderS14 k e c)))

/-- A stream header with four extension bytes (R102). -/
def execWireStreamHeaderS15 (k : BitVec 4) (e : BitVec 32) (c : Byte) (s : State) : Result :=
  .next (s.reportHeader .stream (encode (.wireStreamHeaderS15 k e c)))

end Sys2Proof.Machine
end

