-- ==== Sys2Proof/Machine/Manager.lean ====
section
/-! DEFINITION. The message manager's commands (43_message_manager R240 to R251). -/

namespace Sys2Proof.Machine

/-- NOP (R247). -/
def execNop (s : State) : Result := .next (s.finish 0 0 0 0)

/-- The capacity MSG_INIT asks for (R240, D36): the hint, cut to the ceiling where there is one. -/
def State.initialCapacity (s : State) : Nat := if s.a1 = 0 then s.a0 else min s.a0 s.a1

/-- The writes of MSG_INIT (R240). -/
def State.constructed (s : State) (p : Transport) (a0 : Nat) : State :=
  { s.emptied with proto := p, maxHdr := hdrReserve p, alloc := BitVec.ofNat 32 a0, maxSize := s.arg1 }

/-- MSG_INIT (R240). -/
def execMsgInit (p : Transport) (s : State) : Result :=
  if s.initialCapacity = 0 then .next ((s.constructed p 0).finish 0 0 0 0)
  else match s.growExact s.initialCapacity with
    | ⟨none, d⟩ => .next ((s.drawn d).raise .allocFailure)
    | ⟨some a, d⟩ => .next (((s.drawn d).constructed p a).finish a 0 0 0)

/-- CLEAR (R241). -/
def execClear (s : State) : Result := .next ({ s.emptied with maxSize := s.arg0 }.finish 0 0 0 0)

/-- RESIZE (R242). -/
def execResize (s : State) : Result :=
  if s.a0 ≤ s.alloc.toNat then .next (s.finish s.alloc.toNat 0 0 0)
  else if s.limit < s.a0 then .next (s.raise .sizeExceeded)
  else match s.growExact s.a0 with
    | ⟨none, d⟩ => .next ((s.drawn d).raise .allocFailure)
    | ⟨some a, d⟩ => .next ({ s.drawn d with alloc := BitVec.ofNat 32 a }.finish a 0 0 0)

/-- SET_TYPE (R243). -/
def execSetType (s : State) : Result :=
  if 3 < s.a0 then .next (s.raise .badArgument)
  else .next ({ s with msgType := onDgram s.proto (BitVec.ofNat 2 s.a0) }.headerFieldChanged.finish 0 0 0 0)

/-- SET_CODE (R244). -/
def execSetCode (s : State) : Result :=
  if 255 < s.a0 then .next (s.raise .badArgument)
  else .next ({ s with msgCode := BitVec.ofNat 8 s.a0 }.headerFieldChanged.finish 0 0 0 0)

/-- SET_MID (R245). -/
def execSetMid (s : State) : Result :=
  if 65535 < s.a0 then .next (s.raise .badArgument)
  else .next ({ s with msgId := onDgram s.proto (BitVec.ofNat 16 s.a0) }.headerFieldChanged.finish 0 0 0 0)

/-- ADD_TOKEN (R250). -/
def execAddToken (s : State) : Result :=
  if !s.tokenArgOk then .next (s.raise .badArgument)
  else if s.used ≠ 0 then .next (s.raise .invalidOrder)
  else .next (s.commitBody s.bytes0 s.a0 s.a0 0)

/-- UPDATE_TOKEN (R251). -/
def execUpdateToken (s : State) : Result :=
  if !s.tokenArgOk then .next (s.raise .badArgument)
  else .next (s.commitBody (s.bytes0 ++ s.rest) s.a0 s.a0 0)

end Sys2Proof.Machine
end

