-- ==== Sys2Proof/Machine/OptionCodec.lean ====
section
/-! DEFINITION. The option codec's commands (41_option_codec R190 to R193, R200, R201) and the option wire rows (30_encoding R107,
R108). -/

namespace Sys2Proof.Machine

/-- INSERT_OPTION from "v = InRead(0, L)" on (R190). -/
def State.insertSorted (s : State) (os : List Opt) (p : List Byte) : State :=
  let k := insertPos os s.a0
  s.commitBody (s.token ++ rebuildRest (insertAt os k s.a0 s.bytes1) p) s.tkl.toNat
    (entryLen (s.a0 - prevNumber os k) s.a1) 0

/-- INSERT_OPTION (R190). -/
def execInsertOption (s : State) : Result :=
  if !s.optionArgsOk then .next (s.raise .badArgument)
  else s.withContents fun os p => s.insertSorted os p

/-- ADD_OPTION (R191). -/
def execAddOption (s : State) : Result :=
  if !s.optionArgsOk then .next (s.raise .badArgument)
  else s.withContents fun os p =>
    if dataPresent p then s.raise .invalidOrder else s.insertSorted os p

/-- UPDATE_OPTION (R192): the first entry of that number is replaced where it stands, and an absent number is inserted. -/
def execUpdateOption (s : State) : Result :=
  if !s.optionArgsOk then .next (s.raise .badArgument)
  else s.withContents fun os p =>
    match firstWith os s.a0 with
    | some j =>
      s.commitBody (s.token ++ rebuildRest (os.set j (s.a0, s.bytes1)) p) s.tkl.toNat
        (entryLen (s.a0 - prevNumber os j) s.a1) 0
    | none => s.insertSorted os p

/-- REMOVE_OPTION (R193). -/
def execRemoveOption (s : State) : Result :=
  if !s.numberArgOk then .next (s.raise .badArgument)
  else s.withContents fun os p =>
    match firstWith os s.a0 with
    | none => s.raise .notFound
    | some j =>
      let nb := s.token ++ rebuildRest (os.eraseIdx j) p
      s.commitBody nb s.tkl.toNat (s.used.toNat - nb.length) 0

/-- ITER_INIT (R200). -/
def execIterInit (s : State) : Result :=
  .next ({ s with itValid := true, itPos := BitVec.ofNat 32 (s.maxHdr.toNat + s.tkl.toNat), itNum := 0 }.finish 0 0 0 0)

/-- ITER_NEXT at an entry with delta nibble dn and length nibble ln, from the control byte at IT_POS on (R201). -/
def State.iterEntry (s : State) (dn ln : BitVec 4) : State :=
  let p0 := s.itPos.toNat + 1
  let delta := extDec dn (s.memRead p0 (extLen dn))
  let p1 := p0 + extLen dn
  let len := extDec ln (s.memRead p1 (extLen ln))
  let p2 := p1 + extLen ln
  { s with itPos := BitVec.ofNat 32 (p2 + len), itNum := BitVec.ofNat 16 (s.itNum.toNat + delta) }.finish
    (s.itNum.toNat + delta) p2 len 1

/-- An option control byte (R107) where the iterator stands: what ITER_NEXT does at it (R201; log 9). A reserved nibble is what
"a decoder reports ... as MALFORMED_OPTION" (R109). -/
def execWireOptionControl (d l : BitVec 4) (s : State) : Result :=
  if !s.itValid then .next (s.raise .iterInvalid)
  else if optionNibbleOk d && optionNibbleOk l then .next (s.iterEntry d l)
  else .next (s.raise .malformedOption)

/-- The payload marker (R108) where the iterator stands: the end of the options (R201; log 9). -/
def execWirePayloadMarker (s : State) : Result :=
  if !s.itValid then .next (s.raise .iterInvalid) else .next (s.finish 0 0 0 0)

/-- ITER_NEXT (R201): reads the wire element at IT_POS. A reserved nibble cannot stand there (R41); where one does,
the machine stops (log 14). -/
def execIterNext (s : State) : Result :=
  if !s.itValid then .next (s.raise .iterInvalid)
  else if s.maxHdr.toNat + s.used.toNat ≤ s.itPos.toNat then .next (s.finish 0 0 0 0)
  else match decodeWhole .optionPosition [s.storeByte s.itPos.toNat] with
    | some (.wireOptionControl d l) => .next (s.iterEntry d l)
    | some .wirePayloadMarker => .next (s.finish 0 0 0 0)
    | _ => .fault .bodyMalformed

end Sys2Proof.Machine
end

