-- ==== Sys2Proof/Machine/Payload.lean ====
section
/-! DEFINITION. The payload commands (42_payload R220, R221). -/

namespace Sys2Proof.Machine

/-- ADD_DATA (R220). -/
def execAddData (s : State) : Result :=
  if !s.countOk s.a0 then .next (s.raise .badArgument)
  else s.withContents fun _ p =>
    if dataPresent p then s.raise .invalidOrder
    else if s.a0 = 0 then s.finish 0 0 0 0
    else s.commitBody (s.body ++ 0xFF :: s.bytes0) s.tkl.toNat (s.maxHdr.toNat + s.used.toNat + 1) s.a0

/-- GET_DATA (R221). -/
def execGetData (s : State) : Result :=
  s.withContents fun _ p =>
    if dataPresent p then s.finish (s.dataOff p) (s.maxHdr.toNat + s.used.toNat - s.dataOff p) 0 1
    else s.finish 0 0 0 0

end Sys2Proof.Machine
end

