-- ==== Sys2Proof/Machine/Dispatch.lean ====
section
/-! DEFINITION. One arm per instruction: a direct call of its meaning. -/

namespace Sys2Proof.Machine

def exec (i : Instr) (s : State) : Host.Outcome State Fault Refusal :=
  match i with
  | .nop => Sys2Proof.Machine.execNop s
  | .msgInit p => Sys2Proof.Machine.execMsgInit p s
  | .clear => Sys2Proof.Machine.execClear s
  | .resize => Sys2Proof.Machine.execResize s
  | .setType => Sys2Proof.Machine.execSetType s
  | .setCode => Sys2Proof.Machine.execSetCode s
  | .setMid => Sys2Proof.Machine.execSetMid s
  | .hdrSize p => Sys2Proof.Machine.execHdrSize p s
  | .frameSize p => Sys2Proof.Machine.execFrameSize p s
  | .parse p => Sys2Proof.Machine.execParse p s
  | .encodeHdr => Sys2Proof.Machine.execEncodeHdr s
  | .addToken => Sys2Proof.Machine.execAddToken s
  | .updateToken => Sys2Proof.Machine.execUpdateToken s
  | .addOption => Sys2Proof.Machine.execAddOption s
  | .insertOption => Sys2Proof.Machine.execInsertOption s
  | .updateOption => Sys2Proof.Machine.execUpdateOption s
  | .removeOption => Sys2Proof.Machine.execRemoveOption s
  | .iterInit => Sys2Proof.Machine.execIterInit s
  | .iterNext => Sys2Proof.Machine.execIterNext s
  | .addData => Sys2Proof.Machine.execAddData s
  | .getData => Sys2Proof.Machine.execGetData s
  | .wireDgramHeader v t k c m => Sys2Proof.Machine.execWireDgramHeader v t k c m s
  | .wireStreamHeaderS0to12 sel k c => Sys2Proof.Machine.execWireStreamHeaderS0to12 sel k c s
  | .wireStreamHeaderS13 k e c => Sys2Proof.Machine.execWireStreamHeaderS13 k e c s
  | .wireStreamHeaderS14 k e c => Sys2Proof.Machine.execWireStreamHeaderS14 k e c s
  | .wireStreamHeaderS15 k e c => Sys2Proof.Machine.execWireStreamHeaderS15 k e c s
  | .wireOptionControl d l => Sys2Proof.Machine.execWireOptionControl d l s
  | .wirePayloadMarker => Sys2Proof.Machine.execWirePayloadMarker s

end Sys2Proof.Machine
end

