-- ==== Sys2Proof/Machine/HostPort.lean ====
section
/-! DEFINITION. The host's side of the block: the register map (10_state R21), the three windows (20_memory R70 to R72, R77), the
write of CMD that runs a command (R22), the reset event (70 R300, R301), and how an instruction is placed to run next. -/

namespace Sys2Proof.Machine

/-! ### Registers -/

/-- MSG_CTRL (R21), given DATA_PRESENT. -/
def State.msgCtrl (s : State) (present : Bool) : Word :=
  (0 : BitVec 21) ++ BitVec.ofBool s.itValid ++ BitVec.ofBool present ++ BitVec.ofBool s.hdrValid ++ (0 : BitVec 1) ++ s.hdrSize ++
    s.maxHdr ++ BitVec.ofBool (decide (s.proto = .stream))

/-- MSG_HDR (R21). -/
def State.msgHdr (s : State) : Word := s.msgId ++ s.msgCode ++ s.tkl ++ (0 : BitVec 2) ++ s.msgType

/-- The value of the register at an offset of the register window (R21); none only where a view needs a stored body that does
not decode (log 14). "A read of any other offset in 0x000 to 0xFFF returns 0." -/
def State.readReg (s : State) : Nat → Option Word
  | 0x000 => some s.cmd
  | 0x004 => some s.arg0
  | 0x008 => some s.arg1
  | 0x00C => some (s.status.number.setWidth 32)
  | 0x010 => some s.res0
  | 0x014 => some s.res1
  | 0x018 => some s.res2
  | 0x01C => some s.res3
  | 0x020 => s.contents.map fun c => s.msgCtrl (dataPresent c.2)
  | 0x024 => some s.msgHdr
  | 0x028 => some s.used
  | 0x02C => some s.alloc
  | 0x030 => some s.maxSize
  | 0x034 => s.contents.map fun c => BitVec.ofNat 32 (s.dataOff c.2)
  | 0x038 => some s.itPos
  | 0x03C => some (s.itNum.setWidth 32)
  | 0x040 => some ((codeClass s.msgCode).setWidth 32)
  | 0x044 => some s.cfg.maxRecv
  | 0x048 => some s.cfg.storeBytes
  | 0x04C => some s.cfg.inbufBytes
  | 0x050 => some ((BitVec.ofBool s.cfg.checkVersion).setWidth 32)
  | _ => some 0

/-- A write of CMD (R22, R84, R122): CMD takes the word, and the command runs at once; a word that is no command ends with
ILLEGAL_COMMAND. -/
def State.runCommand (s : State) (w : Word) : Result :=
  match decodeCommand w with
  | .ok i => exec i { s with cmd := w }
  | .error _ => .next ({ s with cmd := w }.raise .illegalCommand)

/-- A write at an offset of the register window (R21): CMD, ARG0 and ARG1 take it, every other offset ignores it. -/
def State.writeReg (s : State) (off : Nat) (w : Word) : Result :=
  match off with
  | 0x000 => s.runCommand w
  | 0x004 => .next { s with arg0 := w }
  | 0x008 => .next { s with arg1 := w }
  | _ => .next s

/-! ### Windows -/

/-- The bytes of an access. -/
def AccessSize.bytes : AccessSize → Nat
  | .byte => 1
  | .half => 2
  | .word => 4

/-- Where an address lies (R70 to R72). -/
inductive Window where
  | registers
  | outside
  | inbuf
  | store
  deriving DecidableEq, Repr

/-- The window of a host address (R70 to R72). DESIGN CHOICE (log 19): for access sizes all of 0x40000000 to 0x7FFFFFFF counts as
the INBUF window, also from P_INBUF_BYTES on, so that a half or word access there is refused. -/
def windowOf (a : Nat) : Window :=
  if a < 0x1000 then .registers
  else if a < inbufBase then .outside
  else if a < storeBase then .inbuf
  else .store

/-- The accesses R77 allows: an aligned word in the register window, a byte in the other two windows, and outside the windows
any access that does not reach into one (log 8). The windows are those of `windowOf` (log 19). -/
def accessOk (size : AccessSize) (a : Nat) : Bool :=
  match windowOf a with
  | .registers => size == .word && a % 4 == 0
  | .outside => windowOf (a + size.bytes - 1) == .outside
  | .inbuf => size == .byte
  | .store => size == .byte

/-- A host read returns a value. -/
def State.returns (s : State) (v : Word) : Result := .next { s with rdata := v }

/-- A host read of INBUF (R71). -/
def State.readInbuf (s : State) (i : Nat) : Result :=
  s.returns (if i < s.cfg.inbufBytes.toNat then (s.inByte i).setWidth 32 else 0)

/-- A store offset names a body byte or a byte of a committed header, whose value a host read returns (R72). -/
def State.storeSpecified (s : State) (o : Nat) : Bool :=
  (s.maxHdr.toNat ≤ o && o < s.maxHdr.toNat + s.used.toNat) ||
  (s.hdrValid && (s.maxHdr.toNat - s.hdrSize.toNat ≤ o && o < s.maxHdr.toNat))

/-- A host read of MS (R72): the byte where it is specified, a fresh draw elsewhere below MAX_HDR + ALLOC, and 0 beyond. -/
def State.readStore (s : State) (o : Nat) : Result :=
  if s.storeSpecified o then s.returns ((s.storeByte o).setWidth 32)
  else if o < s.maxHdr.toNat + s.alloc.toNat then
    (s.drawn (s.draws + 1)).returns ((Config.staleByte s.draws).setWidth 32)
  else s.returns 0

/-- A host read (R70 to R72, R77). -/
def State.hostRead (s : State) (size : AccessSize) (a : Nat) : Result :=
  if !accessOk size a then .refused .accessSize
  else match windowOf a with
    | .registers =>
      match s.readReg a with
      | some v => s.returns v
      | none => .fault .bodyMalformed
    | .outside => s.returns 0
    | .inbuf => s.readInbuf (a - inbufBase)
    | .store => s.readStore (a - storeBase)

/-- A host write of INBUF (R71). -/
def State.writeInbuf (s : State) (i : Nat) (b : Byte) : State :=
  if i < s.cfg.inbufBytes.toNat then { s with mem := s.mem.write (inbufBase + i) b } else s

/-- A host write (R70 to R72, R77). A byte access carries its byte in the data word's low bits (log 6). -/
def State.hostWrite (s : State) (size : AccessSize) (a : Nat) (w : Word) : Result :=
  if !accessOk size a then .refused .accessSize
  else match windowOf a with
    | .registers => s.writeReg a w
    | .outside => .next s
    | .inbuf => .next (s.writeInbuf (a - inbufBase) (w.setWidth 8))
    | .store => .next s

/-- The reset event (70 R300, R301): the reset state with the same parameters. The host's pending accesses and its last read value
lie outside the block and stay; unwritten bytes take new unspecified values (log 7). -/
def State.hardReset (s : State) : State :=
  { State.resetWith s.cfg with host := s.host, rdata := s.rdata, draws := s.draws, epoch := s.epoch + 1 }

/-- Serves one event from outside. -/
def serve (x : HostAccess) (s : State) : Result :=
  match x with
  | .read size a => s.hostRead size a.toNat
  | .write size a w => s.hostWrite size a.toNat w
  | .reset => .next s.hardReset

/-! ### Placing an instruction -/

/-- The host's next access is a write of CMD. -/
def State.pendCommand (s : State) (w : Word) : State := { s with host := .write .word 0 w :: s.host }

/-- A header stands in INBUF, ARG0 counts its bytes, and the host runs FRAME_SIZE (log 11). -/
def State.placeHeader (s : State) (p : Transport) (b : List Byte) : State :=
  { s with mem := s.mem.writeBytes inbufBase b, arg0 := BitVec.ofNat 32 b.length }.pendCommand (commandWord (.frameSize p))

/-- The bytes after a control byte when every one is 0: its extension bytes and its value; after the marker, one payload byte. -/
def zeroTail : Instr → List Byte
  | .wireOptionControl d l =>
    List.replicate (extLen d + extLen l + extDec l (List.replicate (extLen l) 0)) 0
  | _ => [0]

/-- The stored body is one option entry, or a marker and payload, the iterator stands at it, and the host runs ITER_NEXT (log 11). -/
def State.placeElement (s : State) (b : List Byte) : State :=
  { s with
    mem := (s.mem.memWrite s.maxHdr.toNat b).storeForget (s.maxHdr.toNat + b.length)
    tkl := 0
    used := BitVec.ofNat 32 b.length
    alloc := BitVec.ofNat 32 b.length
    hdrValid := false
    itValid := true
    itPos := BitVec.ofNat 32 s.maxHdr.toNat
    itNum := 0 }.pendCommand (commandWord .iterNext)

/-- The state in which the next step runs the given instruction (log 11). -/
def State.placeInstr (s : State) (i : Instr) : State :=
  match i.place with
  | .command => s.pendCommand (commandWord i)
  | .datagramHead => s.placeHeader .dgram (encode i)
  | .streamHead => s.placeHeader .stream (encode i)
  | .optionPosition => s.placeElement (encode i ++ zeroTail i)

end Sys2Proof.Machine
end

