-- ==== Sys2Proof/Machine/Step.lean ====
section
/-! DEFINITION. One step of the machine: the oldest pending host access is served; with none pending the block waits (70 R302). -/

namespace Sys2Proof.Machine

/-- One step. A command is one step, the write of CMD that starts it (R84, R313). -/
def step (s : State) : Host.Outcome State Fault Refusal :=
  match s.host with
  | [] => .next s
  | x :: rest => serve x { s with host := rest }

/-- The state with a table row's instruction placed so that the very next step runs it (log 10, 11). Bits that are no row's
instruction are written to CMD as they are. -/
def State.withFetchWord (s : State) (nbits w : Nat) : State :=
  match decodeTableWord nbits w with
  | some i => s.placeInstr i
  | none => s.pendCommand (BitVec.ofNat 32 w)

end Sys2Proof.Machine
end

