-- ==== Sys2Proof/Safety.lean ====
section
/-! DEFINITION. What claims mean by a sound message: the invariants of 10_state R26 to R32, R41 and R42, the committed header (R28),
and a run of commands. -/

namespace Sys2Proof.Machine

/-- Options in stored order are sorted and in range (R41). -/
abbrev optsOk (os : List Opt) : Prop :=
  (os.map Prod.fst).Pairwise (· ≤ ·) ∧ ∀ o ∈ os, o.1 ≤ 65535 ∧ o.2.length ≤ 65535

/-- Where the iterator may stand in a body whose options start at a store offset: each entry's offset with the number before it,
and the end of the options (R32). -/
def iterStops (pos num : Nat) : List Opt → List (Nat × Nat)
  | [] => [(pos, num)]
  | (n, v) :: os => (pos, num) :: iterStops (pos + (encodeEntry (n - num) v).length) n os

/-- The stored body and its logical list agree (R41), and a valid iterator stands at one of its entries or at their end (R32). -/
def State.BodyOk (s : State) : Prop :=
  ∃ os p, s.contents = some (os, p) ∧ optsOk os ∧ s.rest = rebuildRest os p ∧
    (s.itValid = true → (s.itPos.toNat, s.itNum.toNat) ∈ iterStops (s.maxHdr.toNat + s.tkl.toNat) 0 os)

/-- The invariants of the machine: parameters in range (R7), memory in canonical form, the reservation as the class says (R27),
TYPE and MID zero on STREAM (R31), the header size one of five (R28), the sizes (R42) and the body (R41). -/
structure State.Inv (s : State) : Prop where
  cfg_wf : s.cfg.wf
  mem_wf : s.mem.wf
  reserve : s.maxHdr = hdrReserve s.proto
  stream_zero : s.proto = .stream → s.msgType = 0 ∧ s.msgId = 0
  hdr_size : s.hdrSize.toNat ∈ [0, 2, 3, 4, 6] ∧ s.hdrSize.toNat ≤ s.maxHdr.toNat
  token_le : s.tkl.toNat ≤ 8
  token_used : s.tkl.toNat ≤ s.used.toNat
  used_alloc : s.used.toNat ≤ s.alloc.toNat
  alloc_store : s.alloc.toNat ≤ s.cfg.storeBytes.toNat
  used_limit : s.used.toNat ≤ s.limit
  body_held : ∀ i < s.used.toNat, (s.mem.read (storeBase + s.maxHdr.toNat + i)).isSome = true
  body_ok : s.BodyOk

/-- The committed header and the body, as one frame (40 R154). -/
def State.frame (s : State) : List Byte :=
  s.memRead (s.maxHdr.toNat - s.hdrSize.toNat) (s.hdrSize.toNat + s.used.toNat)

/-- HDR_VALID means that the header bytes "match the current body and header fields" (R28): decoding the stored frame, with no
ceiling and no version check, gives them back. -/
def State.HeaderMatches (s : State) : Prop :=
  s.hdrValid = true → ∃ h, hdrDecode (s.hdrSize.toNat + s.used.toNat) false s.proto s.frame = .ok h ∧
    h.hs = s.hdrSize.toNat ∧ h.tkl = s.tkl.toNat ∧ h.code = some s.msgCode ∧ h.type = s.msgType ∧ h.mid = s.msgId ∧
    h.body = s.used.toNat ∧ h.total = s.hdrSize.toNat + s.used.toNat

/-- Commands run one after another, with nothing else between them; none if one of them stops. -/
def runCommands : List Instr → State → Option State
  | [], s => some s
  | i :: is, s =>
    match exec i s with
    | .next t => runCommands is t
    | .fault _ => none
    | .refused _ => none

end Sys2Proof.Machine
end

