-- ==== Sys2Proof/Certificates/Slice0/Obligations.lean ====
section
/-! DEFINITION. The statements for the provers. Each says what an instruction or the machine does by a rule of spec/; the words of
`Sys2Proof.Spec` below write the rules' own terms out, apart from the model's operations. -/

namespace Sys2Proof.Spec

open Sys2Proof.Machine

/-! ### Terms of the statements -/

/-- `finish(r0, r1, r2, r3)` over a state (R13): OK and the four results. -/
def done (s : State) (r0 r1 r2 r3 : Nat) : State :=
  { s with status := .ok, res0 := BitVec.ofNat 32 r0, res1 := BitVec.ofNat 32 r1, res2 := BitVec.ofNat 32 r2,
           res3 := BitVec.ofNat 32 r3 }

/-- `raise CODE` over a state (R273): the code and four zeros. -/
def failed (s : State) (c : Completion) : State := { s with status := c, res0 := 0, res1 := 0, res2 := 0, res3 := 0 }

/-- MAX_HDR of a transport class (R27). -/
def reserve : Transport → Nat
  | .dgram => 4
  | .stream => 6

/-- `Limit` (R45). -/
def ceiling (s : State) : Nat := if s.maxSize.toNat ≠ 0 then s.maxSize.toNat else s.cfg.maxRecv.toNat

/-- Size check and growth for a body of n bytes, then the commit (R230, R231): above Limit SIZE_EXCEEDED; within ALLOC no draw and
ALLOC kept; above P_STORE_BYTES ALLOC_FAILURE; otherwise the oracle's answer, and a new ALLOC between the need and both
ceilings. `good` says what the committed state holds. -/
def CommitsOrFails (s : State) (r : Result) (n : Nat) (good : State → Prop) : Prop :=
  if ceiling s < n then r = .next (failed s .sizeExceeded)
  else if n ≤ s.alloc.toNat then ∃ t, r = .next t ∧ t.alloc = s.alloc ∧ t.draws = s.draws ∧ good t
  else if s.cfg.storeBytes.toNat < n then r = .next (failed s .allocFailure)
  else if Config.allocOk s.draws then
    ∃ t, r = .next t ∧ n ≤ t.alloc.toNat ∧ t.alloc.toNat ≤ ceiling s ∧ t.alloc.toNat ≤ s.cfg.storeBytes.toNat ∧
      t.draws = s.draws + 1 ∧ good t
  else r = .next (failed { s with draws := s.draws + 1 } .allocFailure)

/-- A committed body (R230): the body reads back, USED and TKL say its sizes, both flags are clear, the results are r0 and r1, and
nothing else has changed but ALLOC, the draw counter and the store bytes from MAX_HDR on. -/
def Committed (s : State) (nb : List Byte) (ntkl r0 r1 : Nat) (t : State) : Prop :=
  t = done { s with mem := t.mem, alloc := t.alloc, draws := t.draws, used := BitVec.ofNat 32 nb.length,
                    tkl := BitVec.ofNat 4 ntkl, hdrValid := false, itValid := false } r0 r1 0 0 ∧
    t.used.toNat = nb.length ∧ t.body = nb ∧ ∀ x < storeBase + s.maxHdr.toNat, t.mem.read x = s.mem.read x

/-- The option number of the last entry, 0 if there is none. -/
def lastNumber (os : List Opt) : Nat := (os.getLast?.map Prod.fst).getD 0

/-- The opcode map of R120: opcode, whether the command takes P, and the command. -/
def opcodeMap : List (Nat × Bool × (Transport → Instr)) :=
  [(0x00, false, fun _ => .nop), (0x01, true, .msgInit), (0x02, false, fun _ => .clear), (0x03, false, fun _ => .resize),
   (0x04, false, fun _ => .setType), (0x05, false, fun _ => .setCode), (0x06, false, fun _ => .setMid),
   (0x10, true, .hdrSize), (0x11, true, .frameSize), (0x12, true, .parse), (0x13, false, fun _ => .encodeHdr)] ++
  [(0x20, false, fun _ => .addToken), (0x21, false, fun _ => .updateToken), (0x30, false, fun _ => .addOption),
   (0x31, false, fun _ => .insertOption), (0x32, false, fun _ => .updateOption), (0x33, false, fun _ => .removeOption),
   (0x34, false, fun _ => .iterInit), (0x35, false, fun _ => .iterNext), (0x40, false, fun _ => .addData),
   (0x41, false, fun _ => .getData)]

/-- The transport class of a command word (R121). -/
def wordClass (w : Word) : Transport := if w.getLsbD 8 then .stream else .dgram

/-- The bytes of the extension scheme (R102, R105) as numbers. -/
def extensionBytes (n : Nat) : Nat := if n ≤ 12 then 0 else if n = 13 then 1 else if n = 14 then 2 else 4

/-- A nibble and the bytes after it as a value (R102, R105). -/
def extended (n : Nat) (b : Nat → Nat) : Nat :=
  if n ≤ 12 then n
  else if n = 13 then b 0 + 13
  else if n = 14 then b 0 * 256 + b 1 + 269
  else b 0 * 16777216 + b 1 * 65536 + b 2 * 256 + b 3 + 65805

/-- HdrDecode (R140) reported as FRAME_SIZE does (R151), for n bytes of which byte i is b i. -/
def headerReport (s : State) (p : Transport) (n : Nat) (b : Nat → Nat) : State :=
  if n = 0 then failed s .malformedHeader
  else if 8 < b 0 % 16 then failed s .malformedHeader
  else match p with
    | .dgram =>
      if n < 4 then failed s .malformedHeader
      else if s.cfg.checkVersion = true ∧ b 0 / 64 ≠ 1 then failed s .malformedHeader
      else if s.cfg.maxRecv.toNat < n then failed s .sizeExceeded
      else done s 4 (n - 4) n (b 0 % 16)
    | .stream =>
      let x := extensionBytes (b 0 / 16)
      let len := extended (b 0 / 16) fun k => b (1 + k)
      if n < 1 + x then failed s .malformedHeader
      else if s.cfg.maxRecv.toNat < 2 + x + b 0 % 16 + len then failed s .sizeExceeded
      else done s (2 + x) (b 0 % 16 + len) (2 + x + b 0 % 16 + len) (b 0 % 16)

/-- The header ENCODE_HDR writes (R142) for a content length below 2^32. -/
def headerBytes (s : State) : List Byte :=
  let c := s.used.toNat - s.tkl.toNat
  let k := s.tkl.toNat
  match s.proto with
  | .dgram =>
    [BitVec.ofNat 8 (64 + 16 * s.msgType.toNat + k), s.msgCode, BitVec.ofNat 8 (s.msgId.toNat / 256),
     BitVec.ofNat 8 s.msgId.toNat]
  | .stream =>
    if c ≤ 12 then [BitVec.ofNat 8 (16 * c + k), s.msgCode]
    else if c ≤ 268 then [BitVec.ofNat 8 (208 + k), BitVec.ofNat 8 (c - 13), s.msgCode]
    else if c ≤ 65804 then
      [BitVec.ofNat 8 (224 + k), BitVec.ofNat 8 ((c - 269) / 256), BitVec.ofNat 8 (c - 269), s.msgCode]
    else
      [BitVec.ofNat 8 (240 + k), BitVec.ofNat 8 ((c - 65805) / 16777216), BitVec.ofNat 8 ((c - 65805) / 65536),
       BitVec.ofNat 8 ((c - 65805) / 256), BitVec.ofNat 8 (c - 65805), s.msgCode]

/-- The completion codes each command can end with (R270, column "raised by"; the wire rows as the commands they stand for). -/
def codesOf : Instr → List Completion
  | .nop | .clear | .hdrSize _ | .iterInit | .getData => [.ok]
  | .msgInit _ => [.ok, .allocFailure]
  | .resize => [.ok, .sizeExceeded, .allocFailure]
  | .setType | .setCode | .setMid => [.ok, .badArgument]
  | .frameSize _ => [.ok, .malformedHeader, .sizeExceeded, .badArgument]
  | .parse _ => [.ok, .malformedHeader, .sizeExceeded, .allocFailure, .malformedOption, .badArgument]
  | .encodeHdr => [.ok, .sizeExceeded, .headerSpace]
  | .addToken | .addOption | .addData => [.ok, .sizeExceeded, .allocFailure, .invalidOrder, .badArgument]
  | .updateToken | .insertOption | .updateOption => [.ok, .sizeExceeded, .allocFailure, .badArgument]
  | .removeOption => [.ok, .badArgument, .notFound]
  | .iterNext => [.ok, .iterInvalid]
  | .wireDgramHeader .. | .wireStreamHeaderS0to12 .. | .wireStreamHeaderS13 .. | .wireStreamHeaderS14 .. |
    .wireStreamHeaderS15 .. => [.ok, .malformedHeader, .sizeExceeded]
  | .wireOptionControl .. => [.ok, .iterInvalid, .malformedOption]
  | .wirePayloadMarker => [.ok, .iterInvalid]

/-- The commands that write the body through CommitBody (R230). -/
def BodyCommand (i : Instr) : Prop :=
  i ∈ [Instr.addToken, .updateToken, .addOption, .insertOption, .updateOption, .removeOption, .addData]

/-- The rows that only report: they write STATUS and RES alone (R151, R150, R221, R247; the wire rows by log 9). -/
def ReportingRow : Instr → Prop
  | .nop | .hdrSize _ | .frameSize _ | .getData | .wireDgramHeader .. | .wireStreamHeaderS0to12 .. | .wireStreamHeaderS13 .. |
    .wireStreamHeaderS14 .. | .wireStreamHeaderS15 .. | .wirePayloadMarker => True
  | _ => False

/-- The rows that move the iterator alone (R200, R201; the option control byte by log 9). -/
def IteratorRow : Instr → Prop
  | .iterInit | .iterNext | .wireOptionControl .. => True
  | _ => False

/-- DATA_PRESENT of a state (R43). -/
def present (s : State) : Option Bool := s.contents.map fun c => decide (c.2 ≠ [])

/-- A command of R47's column "set to 0 by" for a successful run: it changes the body, or is MSG_INIT, CLEAR or PARSE. -/
def ChangesBody (i : Instr) (s : State) : Prop :=
  (i ∈ [Instr.clear, .addToken, .updateToken, .addOption, .insertOption, .updateOption, .removeOption]) ∨
    (∃ p, i = .msgInit p) ∨ (∃ p, i = .parse p) ∨ (i = .addData ∧ s.arg0.toNat ≠ 0)

/-- The bit of a flag. -/
def bit (b : Bool) : Nat := if b then 1 else 0

/-- CODE_CLASS (R46). -/
def classNumber (c : Byte) : Nat :=
  if c.toNat = 0 then 0 else if c.toNat ≤ 31 then 1 else if 224 ≤ c.toNat then 3 else if 64 ≤ c.toNat then 2 else 4

/-- The number of a completion code (R270, column "code"). -/
def codeNumber : Completion → Nat
  | .ok => 0
  | .malformedHeader => 1
  | .sizeExceeded => 2
  | .allocFailure => 3
  | .invalidOrder => 4
  | .duplicateExchange => 5
  | .notARequest => 6
  | .malformedOption => 7
  | .badArgument => 8
  | .notFound => 9
  | .iterInvalid => 10
  | .illegalCommand => 11
  | .headerSpace => 12

/-- The register map of R21 for a state whose payload is pl: offset and value. -/
def registerMap (s : State) (pl : List Byte) : List (Nat × Nat) :=
  [(0x000, s.cmd.toNat), (0x004, s.arg0.toNat), (0x008, s.arg1.toNat), (0x00C, codeNumber s.status), (0x010, s.res0.toNat),
   (0x014, s.res1.toNat), (0x018, s.res2.toNat), (0x01C, s.res3.toNat),
   (0x020, bit (decide (s.proto = .stream)) + 2 * s.maxHdr.toNat + 16 * s.hdrSize.toNat + 256 * bit s.hdrValid +
      512 * bit (decide (pl ≠ [])) + 1024 * bit s.itValid)] ++
  [(0x024, s.msgType.toNat + 16 * s.tkl.toNat + 256 * s.msgCode.toNat + 65536 * s.msgId.toNat), (0x028, s.used.toNat),
   (0x02C, s.alloc.toNat), (0x030, s.maxSize.toNat),
   (0x034, if pl = [] then 0 else s.maxHdr.toNat + s.used.toNat - pl.length), (0x038, s.itPos.toNat), (0x03C, s.itNum.toNat),
   (0x040, classNumber s.msgCode), (0x044, s.cfg.maxRecv.toNat), (0x048, s.cfg.storeBytes.toNat),
   (0x04C, s.cfg.inbufBytes.toNat), (0x050, bit s.cfg.checkVersion)]

/-- A store offset whose byte a host read returns (R72): a body byte or a committed header byte. -/
def StoreByteSpecified (s : State) (o : Nat) : Prop :=
  (s.maxHdr.toNat ≤ o ∧ o < s.maxHdr.toNat + s.used.toNat) ∨
    (s.hdrValid = true ∧ s.maxHdr.toNat - s.hdrSize.toNat ≤ o ∧ o < s.maxHdr.toNat)

/-- A next state, the same but for what is named: used to say frames. -/
def onlyReports (s t : State) : State :=
  { s with status := t.status, res0 := t.res0, res1 := t.res1, res2 := t.res2, res3 := t.res3 }

end Sys2Proof.Spec

open Sys2Proof Sys2Proof.Machine Sys2Proof.Spec

/-! ### Encoding -/

/-- Decoding the encoding of a well-formed instruction, at the place where its bytes stand and with any bytes after it, gives it
back (R100 to R102, R107, R108, R120, R121). -/
def Obligations.DecodeInvertsEncode : Prop :=
  ∀ (i : Instr) (rest : List Byte), i.wellFormed = true → decode i.place (encode i ++ rest) = .ok (i, rest)

/-- Bytes that decode are exactly the encoding of the well-formed instruction they decode to, so that no reserved form decodes and
no two byte sequences at one place stand for one instruction (R109, R112, R122, R123). -/
def Obligations.DecodedBytesAreTheEncoding : Prop :=
  ∀ (p : Place) (b rest : List Byte) (i : Instr), decode p b = .ok (i, rest) →
    i.place = p ∧ i.wellFormed = true ∧ encode i ++ rest = b

/-- R120 and R122: a word written to CMD runs the command of its opcode, with P its bit 8, unless a reserved bit is set, the opcode
is unassigned, or bit 8 is set for a command without P; then it ends with ILLEGAL_COMMAND and changes nothing else. -/
def Obligations.CommandWordRunsOrIsIllegal : Prop :=
  ∀ (s : State) (rest : List HostAccess) (w : Word), s.host = .write .word 0 w :: rest →
    (∀ e ∈ opcodeMap, w.extractLsb' 9 23 = 0 → (w.extractLsb' 0 8).toNat = e.1 → (w.getLsbD 8 = true → e.2.1 = true) →
      step s = exec (e.2.2 (wordClass w)) { s with host := rest, cmd := w }) ∧
    (w.extractLsb' 9 23 ≠ 0 ∨ (∀ e ∈ opcodeMap, (w.extractLsb' 0 8).toNat ≠ e.1) ∨
        (w.getLsbD 8 = true ∧ ∃ e ∈ opcodeMap, (w.extractLsb' 0 8).toNat = e.1 ∧ e.2.1 = false) →
      step s = .next (failed { s with host := rest, cmd := w } .illegalCommand))

/-- Words and bytes written out from R120, R100, R102, R107 and R108 decode to what they stand for. -/
def Obligations.SpecWordsDecode : Prop :=
  decodeCommand 0x00000000 = .ok .nop ∧ decodeCommand 0x00000101 = .ok (.msgInit .stream) ∧
    decodeCommand 0x00000012 = .ok (.parse .dgram) ∧ decodeCommand 0x00000031 = .ok .insertOption ∧
    decodeCommand 0x00000040 = .ok .addData ∧
    decode .datagramHead [0x44, 0x01, 0x12, 0x34] = .ok (.wireDgramHeader 1 0 4 0x01 0x1234, []) ∧
    decode .streamHead [0xD2, 0x00, 0x45] = .ok (.wireStreamHeaderS13 2 0x00 0x45, []) ∧
    decode .optionPosition [0xB2] = .ok (.wireOptionControl 11 2, []) ∧
    decode .optionPosition [0xFF] = .ok (.wirePayloadMarker, [])

/-- A step serves the oldest pending access: a CMD write whose word decodes to i is exec of i with CMD written (R22), and with
nothing pending the block waits (log 6, after R302). -/
def Obligations.StepRunsTheDecodedInstruction : Prop :=
  (∀ (s : State) (rest : List HostAccess) (w : Word) (i : Instr), s.host = .write .word 0 w :: rest → decodeCommand w = .ok i →
      step s = exec i { s with host := rest, cmd := w }) ∧
    ∀ s : State, s.host = [] → step s = .next s

/-- The wire header rows are run by FRAME_SIZE (log 9): where a well-formed header stands at the front of INBUF and ARG0 counts its
bytes, FRAME_SIZE of its class does what the row does. -/
def Obligations.FrameSizeRunsTheHeaderRows : Prop :=
  ∀ (s : State) (p : Transport) (i : Instr), i.place = (match p with | .dgram => .datagramHead | .stream => .streamHead) →
    s.arg0.toNat = (encode i).length → (encode i).length ≤ s.cfg.inbufBytes.toNat → s.inRead 0 (encode i).length = encode i →
    exec (.frameSize p) s = exec i s

/-- The option rows are run by ITER_NEXT (log 9): where a well-formed control byte or the marker stands at IT_POS inside the body,
ITER_NEXT does what the row does. -/
def Obligations.IterNextRunsTheElementRows : Prop :=
  ∀ (s : State) (i : Instr), i.place = .optionPosition → i.wellFormed = true →
    s.itPos.toNat < s.maxHdr.toNat + s.used.toNat → encode i = [s.storeByte s.itPos.toNat] → exec .iterNext s = exec i s

/-! ### Wire formats -/

/-- R106: every value has exactly one extension form, in an option and in a stream header. -/
def Obligations.ExtensionFormsAreUnique : Prop :=
  (∀ (v : Nat) (k : BitVec 4) (e : List Byte), extEnc v = some (k, e) → extDec k e = v ∧ e.length = extLen k ∧ k ≠ 15) ∧
    (∀ (v : Nat) (k : BitVec 4) (e : List Byte), extEncHdr v = some (k, e) → extDec k e = v ∧ e.length = extLen k) ∧
    (∀ (k : BitVec 4) (e : List Byte), k ≠ 15 → e.length = extLen k → extEnc (extDec k e) = some (k, e)) ∧
    ∀ (k : BitVec 4) (e : List Byte), e.length = extLen k → extEncHdr (extDec k e) = some (k, e)

/-- R143: the header round trip. -/
def Obligations.HeaderRoundTrip : Prop :=
  ∀ (p : Transport) (maxRecv : Nat) (chk : Bool) (type : BitVec 2) (tkl : BitVec 4) (code : Byte) (mid : BitVec 16) (clen : Nat)
    (h c : List Byte), tkl.toNat ≤ 8 → hdrEncode p type tkl code mid clen = .ok h → c.length = tkl.toNat + clen →
    (h ++ c).length ≤ maxRecv →
    ∃ r, hdrDecode maxRecv chk p (h ++ c) = .ok r ∧ r.hs = h.length ∧ r.tkl = tkl.toNat ∧ r.code = some code ∧
      r.body = tkl.toNat + clen ∧ r.total = (h ++ c).length ∧
      (p = .dgram → r.ver = 1 ∧ r.type = type ∧ r.mid = mid)

/-- R184: the option round trip, both ways. -/
def Obligations.OptionsRoundTrip : Prop :=
  (∀ (os : List Opt) (p : List Byte), optsOk os → decodeOptions (rebuildRest os p) = some (os, p)) ∧
    ∀ (r p : List Byte) (os : List Opt), decodeOptions r = some (os, p) → r = rebuildRest os p ∧ optsOk os

/-- R183: an entry takes EntryLen bytes, and an extension takes none up to 12, one up to 268 and two up to 65535. -/
def Obligations.EntryLength : Prop :=
  (∀ (d : Nat) (v : List Byte), (encodeEntry d v).length = entryLen d v.length) ∧
    ∀ v ≤ 65535, (extForm v).2.length = if v ≤ 12 then 0 else if v ≤ 268 then 1 else 2

/-- R187: removing an entry never lengthens the body. -/
def Obligations.RemovingNeverLengthens : Prop :=
  ∀ (os : List Opt) (p : List Byte) (j : Nat), optsOk os → j < os.length →
    (rebuildRest (os.eraseIdx j) p).length ≤ (rebuildRest os p).length

/-- R185: the insert position is the index of the first entry of strictly greater number, or the number of entries; and an insert
there keeps the options sorted (R188). -/
def Obligations.InsertPosition : Prop :=
  ∀ (os : List Opt) (n : Nat),
    insertPos os n ≤ os.length ∧ (∀ o ∈ os.take (insertPos os n), o.1 ≤ n) ∧
      (∀ o, os[insertPos os n]? = some o → n < o.1) ∧
      ∀ v : List Byte, optsOk os → n ≤ 65535 → v.length ≤ 65535 → optsOk (insertAt os (insertPos os n) n v)

/-! ### The whole machine -/

/-- Every step keeps the invariants of R7, R27, R28, R31, R32, R41 and R42. -/
def Obligations.EveryStepKeepsTheInvariant : Prop := ∀ s t : State, s.Inv → step s = .next t → t.Inv

/-- R302: the reset state meets the invariant, for every legal choice of the parameters. -/
def Obligations.ResetMeetsTheInvariant : Prop := ∀ p : Params, p.wf → (State.resetWith p).Inv

/-- R276: under the invariant no step ends in a fault: it gives a next state unless the host access is one that R77 refuses. -/
def Obligations.NoStepFaults : Prop :=
  ∀ s : State, s.Inv → (∃ t, step s = .next t) ∨ step s = .refused .accessSize

/-- R28: while HDR_VALID is 1 the committed header bytes match the body and the header fields. -/
def Obligations.CommittedHeaderKeepsMatching : Prop :=
  ∀ s t : State, s.Inv → s.HeaderMatches → step s = .next t → t.HeaderMatches

/-- R300: what reset leaves, for every choice of the parameters. The bytes of INBUF and MS are unspecified: none is listed. -/
def Obligations.ResetValues : Prop :=
  ∀ p : Params, let s := State.resetWith p
    s.proto = .dgram ∧ s.maxHdr = 4 ∧ s.tkl = 0 ∧ s.msgType = 0 ∧ s.msgCode = 0 ∧ s.msgId = 0 ∧ s.used = 0 ∧ s.alloc = 0 ∧
      s.maxSize = 0 ∧ s.hdrValid = false ∧ s.itValid = false ∧ s.hdrSize = 0 ∧ s.itPos = 0 ∧ s.itNum = 0 ∧ s.cmd = 0 ∧
      s.arg0 = 0 ∧ s.arg1 = 0 ∧ s.status = .ok ∧ codeNumber s.status = 0 ∧ s.res0 = 0 ∧ s.res1 = 0 ∧ s.res2 = 0 ∧ s.res3 = 0 ∧
      s.cfg = p ∧ (∀ a, s.mem.read a = none) ∧ s.contents = some ([], []) ∧ s.dataOff [] = 0 ∧ classNumber s.msgCode = 0

/-- R273: a command that ends with a failure code leaves everything but STATUS and RES as it was (and the model's draw counter). -/
def Obligations.FailureChangesNothing : Prop :=
  ∀ (i : Instr) (s t : State), exec i s = .next t → t.status ≠ .ok → t = failed { s with draws := t.draws } t.status

/-- R270: under the invariant a command ends with one of the codes the table gives it; DUPLICATE_EXCHANGE and NOT_A_REQUEST are in no
command's list. The wire rows' codes are the model's choice (log 9). -/
def Obligations.StatusCodesOfEachCommand : Prop :=
  ∀ (i : Instr) (s t : State), s.Inv → exec i s = .next t → t.status ∈ codesOf i

/-- D38: an operand outside its range is BAD_ARGUMENT, before every other check of the command, and nothing else changes. -/
def Obligations.OperandsOutOfRange : Prop :=
  ∀ s : State,
    (3 < s.arg0.toNat → exec .setType s = .next (failed s .badArgument)) ∧
    (255 < s.arg0.toNat → exec .setCode s = .next (failed s .badArgument)) ∧
    (65535 < s.arg0.toNat → exec .setMid s = .next (failed s .badArgument)) ∧
    (∀ i ∈ [Instr.addToken, .updateToken], 8 < s.arg0.toNat ∨ s.cfg.inbufBytes.toNat < s.arg0.toNat →
      exec i s = .next (failed s .badArgument)) ∧
    (∀ i ∈ [Instr.addOption, .insertOption, .updateOption],
      65535 < s.arg0.toNat ∨ 65535 < s.arg1.toNat ∨ s.cfg.inbufBytes.toNat < s.arg1.toNat →
      exec i s = .next (failed s .badArgument)) ∧
    (65535 < s.arg0.toNat → exec .removeOption s = .next (failed s .badArgument)) ∧
    (s.cfg.inbufBytes.toNat < s.arg0.toNat → exec .addData s = .next (failed s .badArgument) ∧
      ∀ p, exec (.frameSize p) s = .next (failed s .badArgument) ∧ exec (.parse p) s = .next (failed s .badArgument))

/-! ### The host's accesses -/

/-- R77: in the register window an access that is not an aligned word, and in the byte windows an access that is not one byte, is
refused, leaving no next state; an allowed access is never refused. That a half or word access from 0x40000000 + P_INBUF_BYTES to
0x7FFFFFFF is refused as well is the model's choice (log 19). -/
def Obligations.AccessSizes : Prop :=
  ∀ (s : State) (rest : List HostAccess) (size : AccessSize) (a w : Word) (x : HostAccess),
    x = .read size a ∨ x = .write size a w → s.host = x :: rest →
      (a.toNat < 0x1000 → ¬(size = .word ∧ a.toNat % 4 = 0) → step s = .refused .accessSize) ∧
      (0x40000000 ≤ a.toNat → size ≠ .byte → step s = .refused .accessSize) ∧
      ((a.toNat < 0x1000 ∧ size = .word ∧ a.toNat % 4 = 0) ∨ (0x40000000 ≤ a.toNat ∧ size = .byte) →
        ∀ r, step s ≠ .refused r)

/-- R21: a word read in the register window returns the register at that offset, field by field, STATUS by the code numbers of
R270, and 0 at an offset without a register. -/
def Obligations.RegisterReads : Prop :=
  ∀ (s : State) (rest : List HostAccess) (a : Word) (os : List Opt) (pl : List Byte),
    s.host = .read .word a :: rest → a.toNat < 0x1000 → a.toNat % 4 = 0 → s.contents = some (os, pl) →
      (∀ v, (a.toNat, v) ∈ registerMap s pl → step s = .next { s with host := rest, rdata := BitVec.ofNat 32 v }) ∧
      ((∀ v, (a.toNat, v) ∉ registerMap s pl) → step s = .next { s with host := rest, rdata := 0 })

/-- R21: ARG0 and ARG1 take what the host writes; a write to any other register but CMD, or to an offset without a register, is
ignored. -/
def Obligations.HostWrites : Prop :=
  ∀ (s : State) (rest : List HostAccess) (a w : Word),
    (s.host = .write .word a w :: rest → a = 4 → step s = .next { s with host := rest, arg0 := w }) ∧
    (s.host = .write .word a w :: rest → a = 8 → step s = .next { s with host := rest, arg1 := w }) ∧
    (s.host = .write .word a w :: rest → 12 ≤ a.toNat → a.toNat < 0x1000 → a.toNat % 4 = 0 →
      step s = .next { s with host := rest })

/-- R72: a byte read in the store window returns a body byte, a committed header byte, a free value, or 0; a write is ignored. -/
def Obligations.StoreWindow : Prop :=
  ∀ (s : State) (rest : List HostAccess) (a w : Word) (o : Nat), a.toNat = 0x80000000 + o →
    (s.host = .read .byte a :: rest →
      (StoreByteSpecified s o → step s = .next { s with host := rest, rdata := (s.storeByte o).setWidth 32 }) ∧
      (¬StoreByteSpecified s o → o < s.maxHdr.toNat + s.alloc.toNat →
        step s = .next { s with host := rest, draws := s.draws + 1, rdata := (Config.staleByte s.draws).setWidth 32 }) ∧
      (¬StoreByteSpecified s o → s.maxHdr.toNat + s.alloc.toNat ≤ o → step s = .next { s with host := rest, rdata := 0 })) ∧
    (s.host = .write .byte a w :: rest → step s = .next { s with host := rest })

/-- R71: below P_INBUF_BYTES a byte read returns IN(i), and a byte write stores the byte there and no other; above, reads return 0
and writes are ignored. -/
def Obligations.InbufWindow : Prop :=
  ∀ (s : State) (rest : List HostAccess) (a w : Word) (i : Nat), a.toNat = 0x40000000 + i → i < 0x40000000 →
    (s.host = .read .byte a :: rest →
      step s = .next { s with host := rest, rdata := if i < s.cfg.inbufBytes.toNat then (s.inByte i).setWidth 32 else 0 }) ∧
    (s.host = .write .byte a w :: rest →
      (i < s.cfg.inbufBytes.toNat → ∃ m, step s = .next { s with host := rest, mem := m } ∧
        m.read a.toNat = some (BitVec.ofNat 8 w.toNat) ∧ ∀ x, x ≠ a.toNat → m.read x = s.mem.read x) ∧
      (s.cfg.inbufBytes.toNat ≤ i → step s = .next { s with host := rest }))

/-- R70: outside the three windows a byte read returns 0 and a byte write is ignored. (That wider accesses do so too where they
reach into no window is the model's reading, log 8.) -/
def Obligations.OutsideTheWindows : Prop :=
  ∀ (s : State) (rest : List HostAccess) (a w : Word), 0x1000 ≤ a.toNat → a.toNat < 0x40000000 →
    (s.host = .read .byte a :: rest → step s = .next { s with host := rest, rdata := 0 }) ∧
    (s.host = .write .byte a w :: rest → step s = .next { s with host := rest })

/-- R81: a read has no side effect on the block (only the returned value and the model's draw counter change), and read again it
returns the same value, unless it is an unspecified store byte. -/
def Obligations.ReadsAreIdempotent : Prop :=
  ∀ (s t : State) (rest : List HostAccess) (size : AccessSize) (a : Word),
    s.host = .read size a :: .read size a :: rest → step s = .next t →
      t = { s with host := .read size a :: rest, rdata := t.rdata, draws := t.draws } ∧
      (a.toNat < 0x80000000 ∨ StoreByteSpecified s (a.toNat - 0x80000000) ∨
          s.maxHdr.toNat + s.alloc.toNat ≤ a.toNat - 0x80000000 →
        step t = .next { t with host := rest })

/-- The reset event (R300, R301) puts every register at its reset value, keeps the parameters and forgets every byte. The host's
pending accesses and last read value lie outside the block and stay (log 7). -/
def Obligations.ResetEvent : Prop :=
  ∀ (s : State) (rest : List HostAccess), s.host = .reset :: rest →
    step s = .next { State.resetWith s.cfg with host := rest, rdata := s.rdata, draws := s.draws, epoch := s.epoch + 1 }

/-! ### Message manager -/

/-- R247. -/
def Obligations.NopReportsOk : Prop := ∀ s : State, exec .nop s = .next (done s 0 0 0 0)

/-- R240. -/
def Obligations.MsgInitConstructsAnEmptyMessage : Prop :=
  ∀ (p : Transport) (s : State),
    let hint := s.arg0.toNat
    let max := s.arg1.toNat
    let a0 := if max ≠ 0 then min hint max else hint
    let made := fun d : Nat => done { s with
      proto := p, maxHdr := BitVec.ofNat 3 (reserve p), hdrSize := 0, hdrValid := false, itValid := false, itPos := 0, itNum := 0,
      msgType := 0, tkl := 0, msgCode := 0, msgId := 0, used := 0, alloc := BitVec.ofNat 32 a0, maxSize := s.arg1,
      draws := d } a0 0 0 0
    (a0 = 0 → exec (.msgInit p) s = .next (made s.draws)) ∧
    (s.cfg.storeBytes.toNat < a0 → exec (.msgInit p) s = .next (failed s .allocFailure)) ∧
    (0 < a0 → a0 ≤ s.cfg.storeBytes.toNat → exec (.msgInit p) s =
      .next (if Config.allocOk s.draws then made (s.draws + 1) else failed { s with draws := s.draws + 1 } .allocFailure))

/-- R241. -/
def Obligations.ClearEmptiesTheMessage : Prop :=
  ∀ s : State, exec .clear s = .next (done { s with
    maxSize := s.arg0, msgType := 0, msgCode := 0, msgId := 0, tkl := 0, used := 0, hdrSize := 0, hdrValid := false,
    itValid := false, itPos := 0, itNum := 0 } 0 0 0 0)

/-- R242. -/
def Obligations.ResizeGrowsTheCapacity : Prop :=
  ∀ s : State,
    let ns := s.arg0.toNat
    (ns ≤ s.alloc.toNat → exec .resize s = .next (done s s.alloc.toNat 0 0 0)) ∧
    (s.alloc.toNat < ns → ceiling s < ns → exec .resize s = .next (failed s .sizeExceeded)) ∧
    (s.alloc.toNat < ns → ns ≤ ceiling s → s.cfg.storeBytes.toNat < ns → exec .resize s = .next (failed s .allocFailure)) ∧
    (s.alloc.toNat < ns → ns ≤ ceiling s → ns ≤ s.cfg.storeBytes.toNat → exec .resize s =
      .next (if Config.allocOk s.draws then done { s with alloc := s.arg0, draws := s.draws + 1 } ns 0 0 0
        else failed { s with draws := s.draws + 1 } .allocFailure))

/-- R243, R244 and R245, with R31. -/
def Obligations.SetCommandsWriteTheHeaderFields : Prop :=
  ∀ s : State,
    exec .setType s = .next (if 3 < s.arg0.toNat then failed s .badArgument else done { s with
      msgType := if s.proto = .stream then 0 else BitVec.ofNat 2 s.arg0.toNat, hdrValid := false } 0 0 0 0) ∧
    exec .setCode s = .next (if 255 < s.arg0.toNat then failed s .badArgument else done { s with
      msgCode := BitVec.ofNat 8 s.arg0.toNat, hdrValid := false } 0 0 0 0) ∧
    exec .setMid s = .next (if 65535 < s.arg0.toNat then failed s .badArgument else done { s with
      msgId := if s.proto = .stream then 0 else BitVec.ofNat 16 s.arg0.toNat, hdrValid := false } 0 0 0 0)

/-- R250 and R251. -/
def Obligations.TokenCommandsCommitTheToken : Prop :=
  ∀ s : State,
    if 8 < s.arg0.toNat ∨ s.cfg.inbufBytes.toNat < s.arg0.toNat then
      exec .addToken s = .next (failed s .badArgument) ∧ exec .updateToken s = .next (failed s .badArgument)
    else
    (s.used ≠ 0 → exec .addToken s = .next (failed s .invalidOrder)) ∧
    (s.used = 0 → CommitsOrFails s (exec .addToken s) s.arg0.toNat
      (Committed s (s.inRead 0 s.arg0.toNat) s.arg0.toNat s.arg0.toNat 0)) ∧
    CommitsOrFails s (exec .updateToken s) (s.inRead 0 s.arg0.toNat ++ s.rest).length
      (Committed s (s.inRead 0 s.arg0.toNat ++ s.rest) s.arg0.toNat s.arg0.toNat 0)

/-! ### Header codec -/

/-- R150 and R141. -/
def Obligations.HdrSizeReportsTheHeaderSize : Prop :=
  ∀ s : State,
    exec (.hdrSize .dgram) s = .next (done s 4 0 0 0) ∧
    exec (.hdrSize .stream) s = .next (done s (2 + extensionBytes ((s.inByte 0).toNat / 16)) 0 0 0)

/-- R151 with R140: FRAME_SIZE reports the header or the first failure, in the order of the checks. -/
def Obligations.FrameSizeReportsTheHeader : Prop :=
  ∀ (p : Transport) (s : State),
    exec (.frameSize p) s = .next (if s.cfg.inbufBytes.toNat < s.arg0.toNat then failed s .badArgument
      else headerReport s p s.arg0.toNat fun i => (s.inByte i).toNat)

/-- R152: PARSE reports the first failure, or commits the frame. HdrDecode and DecodeOptions are those of the model, which
FrameSizeReportsTheHeader and OptionsRoundTrip describe. -/
def Obligations.ParseStoresTheFrame : Prop :=
  ∀ (p : Transport) (s : State),
    (s.cfg.inbufBytes.toNat < s.arg0.toNat → exec (.parse p) s = .next (failed s .badArgument)) ∧
    (s.arg0.toNat ≤ s.cfg.inbufBytes.toNat →
    let n := s.arg0.toNat
    let b := s.inRead 0 n
    (∀ c, hdrDecode s.cfg.maxRecv.toNat s.cfg.checkVersion p b = .error c → exec (.parse p) s = .next (failed s c)) ∧
    ∀ h, hdrDecode s.cfg.maxRecv.toNat s.cfg.checkVersion p b = .ok h →
      let f := match p with | .dgram => n | .stream => h.total
      let short := match p with | .dgram => n < 4 + h.tkl | .stream => n < h.total
      let body := (b.take f).drop h.hs
      (short → exec (.parse p) s = .next (failed s .malformedHeader)) ∧
      (¬short → decodeOptions (body.drop h.tkl) = none → exec (.parse p) s = .next (failed s .malformedOption)) ∧
      (¬short → ∀ os pl, decodeOptions (body.drop h.tkl) = some (os, pl) →
        CommitsOrFails s (exec (.parse p) s) body.length fun t =>
          h.code = some t.msgCode ∧
          t = done { s with
            mem := t.mem, alloc := t.alloc, draws := t.draws, proto := p, maxHdr := BitVec.ofNat 3 (reserve p),
            hdrSize := BitVec.ofNat 3 h.hs, hdrValid := true, tkl := BitVec.ofNat 4 h.tkl, msgCode := t.msgCode,
            msgType := if p = .stream then 0 else h.type, msgId := if p = .stream then 0 else h.mid,
            used := BitVec.ofNat 32 body.length, itValid := false } f body.length os.length pl.length ∧
          t.hdrSize.toNat = h.hs ∧ t.tkl.toNat = h.tkl ∧ t.used.toNat = body.length ∧
          t.memRead (reserve p - h.hs) h.hs = b.take h.hs ∧ t.body = body ∧ t.contents = some (os, pl) ∧
          ∀ x < storeBase + (reserve p - h.hs), t.mem.read x = s.mem.read x))

/-- R153 with R142: ENCODE_HDR writes the smallest header right before the body and nothing else, and reports HEADER_SPACE where the
reservation is too small, which the reservation of the class (R27) never is. A 32-bit content length always has a form, so
SIZE_EXCEEDED does not occur. -/
def Obligations.EncodeHdrWritesTheHeader : Prop :=
  ∀ s : State,
    let h := headerBytes s
    (s.maxHdr.toNat = reserve s.proto → h.length ≤ s.maxHdr.toNat) ∧
    (s.maxHdr.toNat < h.length → exec .encodeHdr s = .next (failed s .headerSpace)) ∧
    (h.length ≤ s.maxHdr.toNat → ∃ t, exec .encodeHdr s = .next t ∧
      t = done { s with mem := t.mem, hdrSize := BitVec.ofNat 3 h.length, hdrValid := true }
        h.length (s.maxHdr.toNat - h.length) (h.length + s.used.toNat) 0 ∧
      t.hdrSize.toNat = h.length ∧ t.memRead (s.maxHdr.toNat - h.length) h.length = h ∧
      ∀ x, x < storeBase + (s.maxHdr.toNat - h.length) ∨ storeBase + s.maxHdr.toNat ≤ x → t.mem.read x = s.mem.read x)

/-- R154: after ENCODE_HDR the bytes at RES1, RES2 long, are the whole frame: header, token, options, marker and payload. -/
def Obligations.EncodedFrameIsTheWholeMessage : Prop :=
  ∀ s t : State, s.Inv → exec .encodeHdr s = .next t →
    ∃ os p, s.contents = some (os, p) ∧ t.status = .ok ∧ t.frame = t.memRead t.res1.toNat t.res2.toNat ∧
      t.frame = headerBytes s ++ s.token ++ encodeOptions os ++ (if p = [] then [] else 0xFF :: p)

/-- R155: the frame round trip. The frame of an encoded message, placed in INBUF of a block with the same parameters, parses, and
leaves the same token length, code, body and logical message, and on a datagram the same type and message id. -/
def Obligations.FrameRoundTrip : Prop :=
  ∀ s s1 s2 : State, s.Inv → exec .encodeHdr s = .next s1 → s2.cfg = s.cfg → s2.arg0.toNat = s1.frame.length →
    s1.frame.length ≤ s.cfg.inbufBytes.toNat → s1.frame.length ≤ s.cfg.maxRecv.toNat →
    (∀ i (h : i < s1.frame.length), s2.mem.read (inbufBase + i) = some s1.frame[i]) →
    s.used.toNat ≤ ceiling s2 → (s.used.toNat ≤ s2.alloc.toNat ∨ Config.allocOk s2.draws = true) →
    ∃ t, exec (.parse s.proto) s2 = .next t ∧ t.status = .ok ∧ t.tkl = s.tkl ∧ t.msgCode = s.msgCode ∧ t.used = s.used ∧
      t.body = s.body ∧ t.token = s.token ∧ t.contents = s.contents ∧ t.msgType = s.msgType ∧ t.msgId = s.msgId

/-- R100, R101, R102 as HdrDecode reads them (R140): each wire header row reports its sizes, or the first failure (log 9). -/
def Obligations.WireHeaderRowsReport : Prop :=
  ∀ (s : State) (k : BitVec 4) (c : Byte),
    (∀ v t m, exec (.wireDgramHeader v t k c m) s = .next (headerReport s .dgram 4 fun _ => 64 * v.toNat + 16 * t.toNat + k.toNat)) ∧
    (∀ sel : BitVec 4, sel.toNat ≤ 12 → exec (.wireStreamHeaderS0to12 sel k c) s =
      .next (if 8 < k.toNat then failed s .malformedHeader
        else if s.cfg.maxRecv.toNat < 2 + k.toNat + sel.toNat then failed s .sizeExceeded
        else done s 2 (k.toNat + sel.toNat) (2 + k.toNat + sel.toNat) k.toNat)) ∧
    (∀ e : BitVec 8, exec (.wireStreamHeaderS13 k e c) s =
      .next (if 8 < k.toNat then failed s .malformedHeader
        else if s.cfg.maxRecv.toNat < 3 + k.toNat + (e.toNat + 13) then failed s .sizeExceeded
        else done s 3 (k.toNat + (e.toNat + 13)) (3 + k.toNat + (e.toNat + 13)) k.toNat)) ∧
    (∀ e : BitVec 16, exec (.wireStreamHeaderS14 k e c) s =
      .next (if 8 < k.toNat then failed s .malformedHeader
        else if s.cfg.maxRecv.toNat < 4 + k.toNat + (e.toNat + 269) then failed s .sizeExceeded
        else done s 4 (k.toNat + (e.toNat + 269)) (4 + k.toNat + (e.toNat + 269)) k.toNat)) ∧
    (∀ e : BitVec 32, exec (.wireStreamHeaderS15 k e c) s =
      .next (if 8 < k.toNat then failed s .malformedHeader
        else if s.cfg.maxRecv.toNat < 6 + k.toNat + (e.toNat + 65805) then failed s .sizeExceeded
        else done s 6 (k.toNat + (e.toNat + 65805)) (6 + k.toNat + (e.toNat + 65805)) k.toNat))

/-! ### Option codec -/

/-- R190, over a body that decodes (R40, R41). -/
def Obligations.InsertOptionCommits : Prop :=
  ∀ (s : State) (os : List Opt) (p : List Byte), s.contents = some (os, p) →
    if 65535 < s.arg0.toNat ∨ 65535 < s.arg1.toNat ∨ s.cfg.inbufBytes.toNat < s.arg1.toNat then
      exec .insertOption s = .next (failed s .badArgument)
    else
    let n := s.arg0.toNat
    let k := insertPos os n
    let nb := s.token ++ rebuildRest (os.take k ++ (n, s.inRead 0 s.arg1.toNat) :: os.drop k) p
    CommitsOrFails s (exec .insertOption s) nb.length
      (Committed s nb s.tkl.toNat (entryLen (n - lastNumber (os.take k)) s.arg1.toNat) 0)

/-- R191: INVALID_ORDER with a payload present, and otherwise as INSERT_OPTION. -/
def Obligations.AddOptionCommitsBeforeAPayload : Prop :=
  ∀ (s : State) (os : List Opt) (p : List Byte), s.contents = some (os, p) →
    if 65535 < s.arg0.toNat ∨ 65535 < s.arg1.toNat ∨ s.cfg.inbufBytes.toNat < s.arg1.toNat then
      exec .addOption s = .next (failed s .badArgument)
    else
    let n := s.arg0.toNat
    let k := insertPos os n
    let nb := s.token ++ rebuildRest (os.take k ++ (n, s.inRead 0 s.arg1.toNat) :: os.drop k) p
    (p ≠ [] → exec .addOption s = .next (failed s .invalidOrder)) ∧
    (p = [] → CommitsOrFails s (exec .addOption s) nb.length
      (Committed s nb s.tkl.toNat (entryLen (n - lastNumber (os.take k)) s.arg1.toNat) 0))

/-- R192: the first entry of the number (index j) is replaced in place; without one it does what INSERT_OPTION does. -/
def Obligations.UpdateOptionReplacesTheFirstMatch : Prop :=
  ∀ (s : State) (os : List Opt) (p : List Byte), s.contents = some (os, p) →
    if 65535 < s.arg0.toNat ∨ 65535 < s.arg1.toNat ∨ s.cfg.inbufBytes.toNat < s.arg1.toNat then
      exec .updateOption s = .next (failed s .badArgument)
    else
    let n := s.arg0.toNat
    (∀ j o, os[j]? = some o → o.1 = n → (∀ o' ∈ os.take j, o'.1 ≠ n) →
      let nb := s.token ++ rebuildRest (os.take j ++ (n, s.inRead 0 s.arg1.toNat) :: os.drop (j + 1)) p
      CommitsOrFails s (exec .updateOption s) nb.length
        (Committed s nb s.tkl.toNat (entryLen (n - lastNumber (os.take j)) s.arg1.toNat) 0)) ∧
    ((∀ o ∈ os, o.1 ≠ n) → exec .updateOption s = exec .insertOption s)

/-- R193, under the invariant: NOT_FOUND without an entry of the number; otherwise the first one
(index j) goes, the commit cannot fail, ALLOC is kept, and RES0 is the shrink. -/
def Obligations.RemoveOptionDeletesTheFirstMatch : Prop :=
  ∀ (s : State) (os : List Opt) (p : List Byte), s.Inv → s.contents = some (os, p) →
    let n := s.arg0.toNat
    (65535 < n → exec .removeOption s = .next (failed s .badArgument)) ∧
    (n ≤ 65535 → (∀ o ∈ os, o.1 ≠ n) → exec .removeOption s = .next (failed s .notFound)) ∧
    ∀ j o, n ≤ 65535 → os[j]? = some o → o.1 = n → (∀ o' ∈ os.take j, o'.1 ≠ n) →
      let nb := s.token ++ rebuildRest (os.take j ++ os.drop (j + 1)) p
      nb.length ≤ s.used.toNat ∧ ∃ t, exec .removeOption s = .next t ∧ t.alloc = s.alloc ∧ t.draws = s.draws ∧
        Committed s nb s.tkl.toNat (s.used.toNat - nb.length) 0 t

/-- R188 and R194 with R40: what the mutations leave, as the logical message: the options with one inserted at its place, replaced
or gone, the payload and the token kept; UPDATE_TOKEN and ADD_DATA keep the options. -/
def Obligations.MutationsActOnTheLogicalMessage : Prop :=
  ∀ (s t : State) (os : List Opt) (p : List Byte), s.Inv → s.contents = some (os, p) → t.status = .ok →
    let n := s.arg0.toNat
    let v := s.inRead 0 s.arg1.toNat
    let k := insertPos os n
    let inserted := os.take k ++ (n, v) :: os.drop k
    (exec .insertOption s = .next t → t.contents = some (inserted, p) ∧ t.token = s.token) ∧
    (exec .addOption s = .next t → t.contents = some (inserted, []) ∧ t.token = s.token) ∧
    (exec .updateOption s = .next t → t.token = s.token ∧
      ((∀ o ∈ os, o.1 ≠ n) → t.contents = some (inserted, p)) ∧
      ∀ j o, os[j]? = some o → o.1 = n → (∀ o' ∈ os.take j, o'.1 ≠ n) →
        t.contents = some (os.take j ++ (n, v) :: os.drop (j + 1), p)) ∧
    (exec .removeOption s = .next t → t.token = s.token ∧
      ∃ j o, os[j]? = some o ∧ o.1 = n ∧ (∀ o' ∈ os.take j, o'.1 ≠ n) ∧
        t.contents = some (os.take j ++ os.drop (j + 1), p)) ∧
    (exec .updateToken s = .next t → t.contents = some (os, p) ∧ t.token = s.inRead 0 n) ∧
    (exec .addData s = .next t → t.contents = some (os, s.inRead 0 n) ∧ t.token = s.token)

/-- R200. -/
def Obligations.IterInitStartsAtTheOptions : Prop :=
  ∀ s : State, exec .iterInit s = .next (done { s with
    itValid := true, itPos := BitVec.ofNat 32 (s.maxHdr.toNat + s.tkl.toNat), itNum := 0 } 0 0 0 0)

/-- R201: ITER_NEXT without a valid iterator is ITER_INVALID; past the entries pre it returns the next entry with its value's
offset, or reports the end and stays. -/
def Obligations.IterNextReturnsTheNextEntry : Prop :=
  ∀ (s : State) (os pre post : List Opt) (p : List Byte), s.Inv → s.contents = some (os, p) →
    (s.itValid = false → exec .iterNext s = .next (failed s .iterInvalid)) ∧
    (s.itValid = true → os = pre ++ post →
      s.itPos.toNat = s.maxHdr.toNat + s.tkl.toNat + (encodeOptions pre).length → s.itNum.toNat = lastNumber pre →
      (post = [] → exec .iterNext s = .next (done s 0 0 0 0)) ∧
      ∀ n v more, post = (n, v) :: more →
        let after := s.maxHdr.toNat + s.tkl.toNat + (encodeOptions (pre ++ [(n, v)])).length
        s.memRead (after - v.length) v.length = v ∧
        exec .iterNext s = .next (done { s with itPos := BitVec.ofNat 32 after, itNum := BitVec.ofNat 16 n }
          n (after - v.length) v.length 1))

/-- R202: a full pass returns the entries in order, each with its value at RES1, and then the end, again and again. -/
def Obligations.FullPassReturnsEveryOption : Prop :=
  ∀ (s : State) (os : List Opt) (p : List Byte), s.Inv → s.contents = some (os, p) →
    ∀ k, ∃ t, runCommands (.iterInit :: List.replicate (k + 1) .iterNext) s = some t ∧ t.status = .ok ∧
      (∀ o, os[k]? = some o → t.res0.toNat = o.1 ∧ t.res2.toNat = o.2.length ∧ t.res3 = 1 ∧
        s.memRead t.res1.toNat t.res2.toNat = o.2) ∧
      (os.length ≤ k → t.res0 = 0 ∧ t.res1 = 0 ∧ t.res2 = 0 ∧ t.res3 = 0)

/-- R107 and R108 where the iterator stands (R201, R109; log 9): the option control byte moves the iterator past its entry, a reserved
nibble is MALFORMED_OPTION, the marker is the end, and without a valid iterator both are ITER_INVALID. -/
def Obligations.WireElementRowsIterate : Prop :=
  ∀ (s : State) (d l : BitVec 4),
    let b := fun i : Nat => (s.storeByte (s.itPos.toNat + i)).toNat
    let xd := extensionBytes d.toNat
    let xl := extensionBytes l.toNat
    let delta := extended d.toNat fun k => b (1 + k)
    let len := extended l.toNat fun k => b (1 + xd + k)
    let value := s.itPos.toNat + 1 + xd + xl
    (s.itValid = false → exec (.wireOptionControl d l) s = .next (failed s .iterInvalid) ∧
      exec .wirePayloadMarker s = .next (failed s .iterInvalid)) ∧
    (s.itValid = true → exec .wirePayloadMarker s = .next (done s 0 0 0 0)) ∧
    (s.itValid = true → d ≠ 15 → l ≠ 15 → exec (.wireOptionControl d l) s = .next (done { s with
      itPos := BitVec.ofNat 32 (value + len), itNum := BitVec.ofNat 16 (s.itNum.toNat + delta) }
      (s.itNum.toNat + delta) value len 1)) ∧
    (s.itValid = true → d = 15 ∨ l = 15 → exec (.wireOptionControl d l) s = .next (failed s .malformedOption))

/-! ### Payload -/

/-- R220, over a body that decodes (R40, R41). -/
def Obligations.AddDataAppendsThePayload : Prop :=
  ∀ (s : State) (os : List Opt) (p : List Byte), s.contents = some (os, p) →
    let n := s.arg0.toNat
    let nb := s.body ++ [0xFF] ++ s.inRead 0 n
    if s.cfg.inbufBytes.toNat < n then exec .addData s = .next (failed s .badArgument)
    else
    (p ≠ [] → exec .addData s = .next (failed s .invalidOrder)) ∧
    (p = [] → n = 0 → exec .addData s = .next (done s 0 0 0 0)) ∧
    (p = [] → n ≠ 0 → CommitsOrFails s (exec .addData s) nb.length
      (Committed s nb s.tkl.toNat (s.maxHdr.toNat + s.used.toNat + 1) n))

/-- R221 with R43 and R44: GET_DATA names the payload's bytes, or reports that there is none. -/
def Obligations.GetDataLocatesThePayload : Prop :=
  ∀ (s : State) (os : List Opt) (p : List Byte), s.contents = some (os, p) →
    (p = [] → exec .getData s = .next (done s 0 0 0 0)) ∧
    (p ≠ [] → let off := s.maxHdr.toNat + s.used.toNat - p.length
      s.memRead off p.length = p ∧ exec .getData s = .next (done s off p.length 0 1))

/-! ### What stays unchanged -/

/-- The frame of the reporting rows: STATUS and RES alone change; every byte of memory stays. For NOP, HDR_SIZE, FRAME_SIZE and
GET_DATA the rules say so (R247, R150, R151, R221); that the wire headers and the marker report in this way is the model's
choice (log 9). -/
def Obligations.ReportingRowsChangeOnlyResults : Prop :=
  ∀ (i : Instr) (s t : State), ReportingRow i → exec i s = .next t → t = onlyReports s t

/-- The frame of the iterator rows: beside STATUS and RES only the iterator moves. For ITER_INIT and ITER_NEXT the rules say so
(R200, R201); that the option control byte moves the iterator is the model's choice (log 9). -/
def Obligations.IteratorRowsMoveOnlyTheIterator : Prop :=
  ∀ (i : Instr) (s t : State), IteratorRow i → exec i s = .next t →
    t = { onlyReports s t with itValid := t.itValid, itPos := t.itPos, itNum := t.itNum }

/-- The frames of the commands that store nothing: MSG_INIT, CLEAR, RESIZE, SET_TYPE, SET_CODE and SET_MID change the registers
named by their rules (R240 to R245) and no byte of memory. -/
def Obligations.RegisterCommandsStoreNothing : Prop :=
  ∀ s t : State,
    (∀ p, exec (.msgInit p) s = .next t → t = { onlyReports s t with
      proto := t.proto, maxHdr := t.maxHdr, hdrSize := t.hdrSize, hdrValid := t.hdrValid, itValid := t.itValid, itPos := t.itPos,
      itNum := t.itNum, msgType := t.msgType, tkl := t.tkl, msgCode := t.msgCode, msgId := t.msgId, used := t.used,
      alloc := t.alloc, maxSize := t.maxSize, draws := t.draws }) ∧
    (exec .clear s = .next t → t = { onlyReports s t with
      hdrSize := t.hdrSize, hdrValid := t.hdrValid, itValid := t.itValid, itPos := t.itPos, itNum := t.itNum,
      msgType := t.msgType, tkl := t.tkl, msgCode := t.msgCode, msgId := t.msgId, used := t.used, maxSize := t.maxSize }) ∧
    (exec .resize s = .next t → t = { onlyReports s t with alloc := t.alloc, draws := t.draws }) ∧
    (exec .setType s = .next t → t = { onlyReports s t with msgType := t.msgType, hdrValid := t.hdrValid }) ∧
    (exec .setCode s = .next t → t = { onlyReports s t with msgCode := t.msgCode, hdrValid := t.hdrValid }) ∧
    (exec .setMid s = .next t → t = { onlyReports s t with msgId := t.msgId, hdrValid := t.hdrValid })

/-- The frame of the body commands (R230): beside STATUS and RES only USED, TKL, ALLOC, HDR_VALID, IT_VALID, the model's draw counter
and store bytes from MAX_HDR on change. The stored bytes are those from MAX_HDR to MAX_HDR + USED; the bytes after them hold no
value any more ("become unspecified") when the body has changed. -/
def Obligations.BodyCommandsChangeOnlyTheBody : Prop :=
  ∀ (i : Instr) (s t : State), BodyCommand i → exec i s = .next t →
    t = { onlyReports s t with mem := t.mem, used := t.used, tkl := t.tkl, alloc := t.alloc, hdrValid := t.hdrValid,
                               itValid := t.itValid, draws := t.draws } ∧
    (∀ x < storeBase + s.maxHdr.toNat, t.mem.read x = s.mem.read x) ∧
    (t.mem = s.mem ∨ ∀ x, storeBase + s.maxHdr.toNat + t.used.toNat ≤ x → t.mem.read x = none)

/-- The frames of ENCODE_HDR and PARSE (R153, R152): the registers their rules name change; ENCODE_HDR stores only the header bytes,
HDR_SIZE many right below MAX_HDR, and PARSE only the header bytes and, from the new MAX_HDR on, the body. -/
def Obligations.FramingCommandsStoreOnlyTheFrame : Prop :=
  ∀ s t : State,
    (exec .encodeHdr s = .next t →
      t = { onlyReports s t with mem := t.mem, hdrSize := t.hdrSize, hdrValid := t.hdrValid } ∧
      ∀ x, x < storeBase + (s.maxHdr.toNat - t.hdrSize.toNat) ∨ storeBase + s.maxHdr.toNat ≤ x → t.mem.read x = s.mem.read x) ∧
    ∀ p, exec (.parse p) s = .next t →
      t = { onlyReports s t with
        mem := t.mem, proto := t.proto, maxHdr := t.maxHdr, hdrSize := t.hdrSize, hdrValid := t.hdrValid, tkl := t.tkl,
        msgCode := t.msgCode, msgType := t.msgType, msgId := t.msgId, used := t.used, alloc := t.alloc, itValid := t.itValid,
        draws := t.draws } ∧
      (∀ x < storeBase + (t.maxHdr.toNat - t.hdrSize.toNat), t.mem.read x = s.mem.read x) ∧
      (t.mem = s.mem ∨ ∀ x, storeBase + t.maxHdr.toNat + t.used.toNat ≤ x → t.mem.read x = none)

/-- R305: no command writes INBUF, and none touches the host's operand registers, CMD or the configuration (R22, R23, R33). -/
def Obligations.CommandsNeverWriteInbuf : Prop :=
  ∀ (i : Instr) (s t : State), exec i s = .next t →
    (∀ x < storeBase, t.mem.read x = s.mem.read x) ∧ t.cmd = s.cmd ∧ t.arg0 = s.arg0 ∧ t.arg1 = s.arg1 ∧ t.cfg = s.cfg ∧
      t.host = s.host

/-- R47: what sets and clears HDR_VALID, IT_VALID and DATA_PRESENT when a command succeeds. -/
def Obligations.FlagsFollowTheTable : Prop :=
  ∀ (i : Instr) (s t : State), s.Inv → exec i s = .next t → t.status = .ok →
    ((i = .encodeHdr ∨ ∃ p, i = .parse p) → t.hdrValid = true) ∧
    (((¬∃ p, i = .parse p) ∧ ChangesBody i s) ∨ i ∈ [Instr.setType, .setCode, .setMid] → t.hdrValid = false) ∧
    (i ≠ .encodeHdr → ¬ChangesBody i s → i ∉ [Instr.setType, .setCode, .setMid] → t.hdrValid = s.hdrValid) ∧
    (i = .iterInit → t.itValid = true) ∧ (ChangesBody i s → t.itValid = false) ∧
    (i ≠ .iterInit → ¬ChangesBody i s → t.itValid = s.itValid) ∧
    (i = .addData → s.arg0.toNat ≠ 0 → present t = some true) ∧
    ((∃ p, i = .parse p) → present t = some (decide (t.res3 ≠ 0))) ∧
    (i = .clear ∨ (∃ p, i = .msgInit p) → present t = some false) ∧
    (i ≠ .clear → (¬∃ p, i = .msgInit p) → (¬∃ p, i = .parse p) → ¬(i = .addData ∧ s.arg0.toNat ≠ 0) → present t = present s)
end

