-- ==== Sys2Proof/Laws/State.lean ====
section
/-! SUPPORT. One lemma per field of State and per update of it, so that later proofs unfold no record update. -/

namespace Sys2Proof.Machine

variable (s : State)

/-! ### setRes -/

@[simp] theorem State.setRes_cmd (r0 r1 r2 r3 : Nat) : (s.setRes r0 r1 r2 r3).cmd = s.cmd := rfl
@[simp] theorem State.setRes_arg0 (r0 r1 r2 r3 : Nat) : (s.setRes r0 r1 r2 r3).arg0 = s.arg0 := rfl
@[simp] theorem State.setRes_arg1 (r0 r1 r2 r3 : Nat) : (s.setRes r0 r1 r2 r3).arg1 = s.arg1 := rfl
@[simp] theorem State.setRes_status (r0 r1 r2 r3 : Nat) : (s.setRes r0 r1 r2 r3).status = s.status := rfl
@[simp] theorem State.setRes_res0 (r0 r1 r2 r3 : Nat) : (s.setRes r0 r1 r2 r3).res0 = BitVec.ofNat 32 r0 := rfl
@[simp] theorem State.setRes_res1 (r0 r1 r2 r3 : Nat) : (s.setRes r0 r1 r2 r3).res1 = BitVec.ofNat 32 r1 := rfl
@[simp] theorem State.setRes_res2 (r0 r1 r2 r3 : Nat) : (s.setRes r0 r1 r2 r3).res2 = BitVec.ofNat 32 r2 := rfl
@[simp] theorem State.setRes_res3 (r0 r1 r2 r3 : Nat) : (s.setRes r0 r1 r2 r3).res3 = BitVec.ofNat 32 r3 := rfl
@[simp] theorem State.setRes_proto (r0 r1 r2 r3 : Nat) : (s.setRes r0 r1 r2 r3).proto = s.proto := rfl
@[simp] theorem State.setRes_maxHdr (r0 r1 r2 r3 : Nat) : (s.setRes r0 r1 r2 r3).maxHdr = s.maxHdr := rfl
@[simp] theorem State.setRes_hdrSize (r0 r1 r2 r3 : Nat) : (s.setRes r0 r1 r2 r3).hdrSize = s.hdrSize := rfl
@[simp] theorem State.setRes_hdrValid (r0 r1 r2 r3 : Nat) : (s.setRes r0 r1 r2 r3).hdrValid = s.hdrValid := rfl
@[simp] theorem State.setRes_itValid (r0 r1 r2 r3 : Nat) : (s.setRes r0 r1 r2 r3).itValid = s.itValid := rfl
@[simp] theorem State.setRes_itPos (r0 r1 r2 r3 : Nat) : (s.setRes r0 r1 r2 r3).itPos = s.itPos := rfl
@[simp] theorem State.setRes_itNum (r0 r1 r2 r3 : Nat) : (s.setRes r0 r1 r2 r3).itNum = s.itNum := rfl
@[simp] theorem State.setRes_msgType (r0 r1 r2 r3 : Nat) : (s.setRes r0 r1 r2 r3).msgType = s.msgType := rfl
@[simp] theorem State.setRes_tkl (r0 r1 r2 r3 : Nat) : (s.setRes r0 r1 r2 r3).tkl = s.tkl := rfl
@[simp] theorem State.setRes_msgCode (r0 r1 r2 r3 : Nat) : (s.setRes r0 r1 r2 r3).msgCode = s.msgCode := rfl
@[simp] theorem State.setRes_msgId (r0 r1 r2 r3 : Nat) : (s.setRes r0 r1 r2 r3).msgId = s.msgId := rfl
@[simp] theorem State.setRes_used (r0 r1 r2 r3 : Nat) : (s.setRes r0 r1 r2 r3).used = s.used := rfl
@[simp] theorem State.setRes_alloc (r0 r1 r2 r3 : Nat) : (s.setRes r0 r1 r2 r3).alloc = s.alloc := rfl
@[simp] theorem State.setRes_maxSize (r0 r1 r2 r3 : Nat) : (s.setRes r0 r1 r2 r3).maxSize = s.maxSize := rfl
@[simp] theorem State.setRes_cfg (r0 r1 r2 r3 : Nat) : (s.setRes r0 r1 r2 r3).cfg = s.cfg := rfl
@[simp] theorem State.setRes_mem (r0 r1 r2 r3 : Nat) : (s.setRes r0 r1 r2 r3).mem = s.mem := rfl
@[simp] theorem State.setRes_host (r0 r1 r2 r3 : Nat) : (s.setRes r0 r1 r2 r3).host = s.host := rfl
@[simp] theorem State.setRes_rdata (r0 r1 r2 r3 : Nat) : (s.setRes r0 r1 r2 r3).rdata = s.rdata := rfl
@[simp] theorem State.setRes_draws (r0 r1 r2 r3 : Nat) : (s.setRes r0 r1 r2 r3).draws = s.draws := rfl
@[simp] theorem State.setRes_epoch (r0 r1 r2 r3 : Nat) : (s.setRes r0 r1 r2 r3).epoch = s.epoch := rfl

/-! ### finish -/

@[simp] theorem State.finish_cmd (r0 r1 r2 r3 : Nat) : (s.finish r0 r1 r2 r3).cmd = s.cmd := rfl
@[simp] theorem State.finish_arg0 (r0 r1 r2 r3 : Nat) : (s.finish r0 r1 r2 r3).arg0 = s.arg0 := rfl
@[simp] theorem State.finish_arg1 (r0 r1 r2 r3 : Nat) : (s.finish r0 r1 r2 r3).arg1 = s.arg1 := rfl
@[simp] theorem State.finish_status (r0 r1 r2 r3 : Nat) : (s.finish r0 r1 r2 r3).status = .ok := rfl
@[simp] theorem State.finish_res0 (r0 r1 r2 r3 : Nat) : (s.finish r0 r1 r2 r3).res0 = BitVec.ofNat 32 r0 := rfl
@[simp] theorem State.finish_res1 (r0 r1 r2 r3 : Nat) : (s.finish r0 r1 r2 r3).res1 = BitVec.ofNat 32 r1 := rfl
@[simp] theorem State.finish_res2 (r0 r1 r2 r3 : Nat) : (s.finish r0 r1 r2 r3).res2 = BitVec.ofNat 32 r2 := rfl
@[simp] theorem State.finish_res3 (r0 r1 r2 r3 : Nat) : (s.finish r0 r1 r2 r3).res3 = BitVec.ofNat 32 r3 := rfl
@[simp] theorem State.finish_proto (r0 r1 r2 r3 : Nat) : (s.finish r0 r1 r2 r3).proto = s.proto := rfl
@[simp] theorem State.finish_maxHdr (r0 r1 r2 r3 : Nat) : (s.finish r0 r1 r2 r3).maxHdr = s.maxHdr := rfl
@[simp] theorem State.finish_hdrSize (r0 r1 r2 r3 : Nat) : (s.finish r0 r1 r2 r3).hdrSize = s.hdrSize := rfl
@[simp] theorem State.finish_hdrValid (r0 r1 r2 r3 : Nat) : (s.finish r0 r1 r2 r3).hdrValid = s.hdrValid := rfl
@[simp] theorem State.finish_itValid (r0 r1 r2 r3 : Nat) : (s.finish r0 r1 r2 r3).itValid = s.itValid := rfl
@[simp] theorem State.finish_itPos (r0 r1 r2 r3 : Nat) : (s.finish r0 r1 r2 r3).itPos = s.itPos := rfl
@[simp] theorem State.finish_itNum (r0 r1 r2 r3 : Nat) : (s.finish r0 r1 r2 r3).itNum = s.itNum := rfl
@[simp] theorem State.finish_msgType (r0 r1 r2 r3 : Nat) : (s.finish r0 r1 r2 r3).msgType = s.msgType := rfl
@[simp] theorem State.finish_tkl (r0 r1 r2 r3 : Nat) : (s.finish r0 r1 r2 r3).tkl = s.tkl := rfl
@[simp] theorem State.finish_msgCode (r0 r1 r2 r3 : Nat) : (s.finish r0 r1 r2 r3).msgCode = s.msgCode := rfl
@[simp] theorem State.finish_msgId (r0 r1 r2 r3 : Nat) : (s.finish r0 r1 r2 r3).msgId = s.msgId := rfl
@[simp] theorem State.finish_used (r0 r1 r2 r3 : Nat) : (s.finish r0 r1 r2 r3).used = s.used := rfl
@[simp] theorem State.finish_alloc (r0 r1 r2 r3 : Nat) : (s.finish r0 r1 r2 r3).alloc = s.alloc := rfl
@[simp] theorem State.finish_maxSize (r0 r1 r2 r3 : Nat) : (s.finish r0 r1 r2 r3).maxSize = s.maxSize := rfl
@[simp] theorem State.finish_cfg (r0 r1 r2 r3 : Nat) : (s.finish r0 r1 r2 r3).cfg = s.cfg := rfl
@[simp] theorem State.finish_mem (r0 r1 r2 r3 : Nat) : (s.finish r0 r1 r2 r3).mem = s.mem := rfl
@[simp] theorem State.finish_host (r0 r1 r2 r3 : Nat) : (s.finish r0 r1 r2 r3).host = s.host := rfl
@[simp] theorem State.finish_rdata (r0 r1 r2 r3 : Nat) : (s.finish r0 r1 r2 r3).rdata = s.rdata := rfl
@[simp] theorem State.finish_draws (r0 r1 r2 r3 : Nat) : (s.finish r0 r1 r2 r3).draws = s.draws := rfl
@[simp] theorem State.finish_epoch (r0 r1 r2 r3 : Nat) : (s.finish r0 r1 r2 r3).epoch = s.epoch := rfl

/-! ### raise -/

@[simp] theorem State.raise_cmd (c : Completion) : (s.raise c).cmd = s.cmd := rfl
@[simp] theorem State.raise_arg0 (c : Completion) : (s.raise c).arg0 = s.arg0 := rfl
@[simp] theorem State.raise_arg1 (c : Completion) : (s.raise c).arg1 = s.arg1 := rfl
@[simp] theorem State.raise_status (c : Completion) : (s.raise c).status = c := rfl
@[simp] theorem State.raise_res0 (c : Completion) : (s.raise c).res0 = 0 := rfl
@[simp] theorem State.raise_res1 (c : Completion) : (s.raise c).res1 = 0 := rfl
@[simp] theorem State.raise_res2 (c : Completion) : (s.raise c).res2 = 0 := rfl
@[simp] theorem State.raise_res3 (c : Completion) : (s.raise c).res3 = 0 := rfl
@[simp] theorem State.raise_proto (c : Completion) : (s.raise c).proto = s.proto := rfl
@[simp] theorem State.raise_maxHdr (c : Completion) : (s.raise c).maxHdr = s.maxHdr := rfl
@[simp] theorem State.raise_hdrSize (c : Completion) : (s.raise c).hdrSize = s.hdrSize := rfl
@[simp] theorem State.raise_hdrValid (c : Completion) : (s.raise c).hdrValid = s.hdrValid := rfl
@[simp] theorem State.raise_itValid (c : Completion) : (s.raise c).itValid = s.itValid := rfl
@[simp] theorem State.raise_itPos (c : Completion) : (s.raise c).itPos = s.itPos := rfl
@[simp] theorem State.raise_itNum (c : Completion) : (s.raise c).itNum = s.itNum := rfl
@[simp] theorem State.raise_msgType (c : Completion) : (s.raise c).msgType = s.msgType := rfl
@[simp] theorem State.raise_tkl (c : Completion) : (s.raise c).tkl = s.tkl := rfl
@[simp] theorem State.raise_msgCode (c : Completion) : (s.raise c).msgCode = s.msgCode := rfl
@[simp] theorem State.raise_msgId (c : Completion) : (s.raise c).msgId = s.msgId := rfl
@[simp] theorem State.raise_used (c : Completion) : (s.raise c).used = s.used := rfl
@[simp] theorem State.raise_alloc (c : Completion) : (s.raise c).alloc = s.alloc := rfl
@[simp] theorem State.raise_maxSize (c : Completion) : (s.raise c).maxSize = s.maxSize := rfl
@[simp] theorem State.raise_cfg (c : Completion) : (s.raise c).cfg = s.cfg := rfl
@[simp] theorem State.raise_mem (c : Completion) : (s.raise c).mem = s.mem := rfl
@[simp] theorem State.raise_host (c : Completion) : (s.raise c).host = s.host := rfl
@[simp] theorem State.raise_rdata (c : Completion) : (s.raise c).rdata = s.rdata := rfl
@[simp] theorem State.raise_draws (c : Completion) : (s.raise c).draws = s.draws := rfl
@[simp] theorem State.raise_epoch (c : Completion) : (s.raise c).epoch = s.epoch := rfl

/-! ### drawn -/

@[simp] theorem State.drawn_cmd (n : Nat) : (s.drawn n).cmd = s.cmd := rfl
@[simp] theorem State.drawn_arg0 (n : Nat) : (s.drawn n).arg0 = s.arg0 := rfl
@[simp] theorem State.drawn_arg1 (n : Nat) : (s.drawn n).arg1 = s.arg1 := rfl
@[simp] theorem State.drawn_status (n : Nat) : (s.drawn n).status = s.status := rfl
@[simp] theorem State.drawn_res0 (n : Nat) : (s.drawn n).res0 = s.res0 := rfl
@[simp] theorem State.drawn_res1 (n : Nat) : (s.drawn n).res1 = s.res1 := rfl
@[simp] theorem State.drawn_res2 (n : Nat) : (s.drawn n).res2 = s.res2 := rfl
@[simp] theorem State.drawn_res3 (n : Nat) : (s.drawn n).res3 = s.res3 := rfl
@[simp] theorem State.drawn_proto (n : Nat) : (s.drawn n).proto = s.proto := rfl
@[simp] theorem State.drawn_maxHdr (n : Nat) : (s.drawn n).maxHdr = s.maxHdr := rfl
@[simp] theorem State.drawn_hdrSize (n : Nat) : (s.drawn n).hdrSize = s.hdrSize := rfl
@[simp] theorem State.drawn_hdrValid (n : Nat) : (s.drawn n).hdrValid = s.hdrValid := rfl
@[simp] theorem State.drawn_itValid (n : Nat) : (s.drawn n).itValid = s.itValid := rfl
@[simp] theorem State.drawn_itPos (n : Nat) : (s.drawn n).itPos = s.itPos := rfl
@[simp] theorem State.drawn_itNum (n : Nat) : (s.drawn n).itNum = s.itNum := rfl
@[simp] theorem State.drawn_msgType (n : Nat) : (s.drawn n).msgType = s.msgType := rfl
@[simp] theorem State.drawn_tkl (n : Nat) : (s.drawn n).tkl = s.tkl := rfl
@[simp] theorem State.drawn_msgCode (n : Nat) : (s.drawn n).msgCode = s.msgCode := rfl
@[simp] theorem State.drawn_msgId (n : Nat) : (s.drawn n).msgId = s.msgId := rfl
@[simp] theorem State.drawn_used (n : Nat) : (s.drawn n).used = s.used := rfl
@[simp] theorem State.drawn_alloc (n : Nat) : (s.drawn n).alloc = s.alloc := rfl
@[simp] theorem State.drawn_maxSize (n : Nat) : (s.drawn n).maxSize = s.maxSize := rfl
@[simp] theorem State.drawn_cfg (n : Nat) : (s.drawn n).cfg = s.cfg := rfl
@[simp] theorem State.drawn_mem (n : Nat) : (s.drawn n).mem = s.mem := rfl
@[simp] theorem State.drawn_host (n : Nat) : (s.drawn n).host = s.host := rfl
@[simp] theorem State.drawn_rdata (n : Nat) : (s.drawn n).rdata = s.rdata := rfl
@[simp] theorem State.drawn_draws (n : Nat) : (s.drawn n).draws = n := rfl
@[simp] theorem State.drawn_epoch (n : Nat) : (s.drawn n).epoch = s.epoch := rfl

/-! ### bodyChanged -/

@[simp] theorem State.bodyChanged_cmd : s.bodyChanged.cmd = s.cmd := rfl
@[simp] theorem State.bodyChanged_arg0 : s.bodyChanged.arg0 = s.arg0 := rfl
@[simp] theorem State.bodyChanged_arg1 : s.bodyChanged.arg1 = s.arg1 := rfl
@[simp] theorem State.bodyChanged_status : s.bodyChanged.status = s.status := rfl
@[simp] theorem State.bodyChanged_res0 : s.bodyChanged.res0 = s.res0 := rfl
@[simp] theorem State.bodyChanged_res1 : s.bodyChanged.res1 = s.res1 := rfl
@[simp] theorem State.bodyChanged_res2 : s.bodyChanged.res2 = s.res2 := rfl
@[simp] theorem State.bodyChanged_res3 : s.bodyChanged.res3 = s.res3 := rfl
@[simp] theorem State.bodyChanged_proto : s.bodyChanged.proto = s.proto := rfl
@[simp] theorem State.bodyChanged_maxHdr : s.bodyChanged.maxHdr = s.maxHdr := rfl
@[simp] theorem State.bodyChanged_hdrSize : s.bodyChanged.hdrSize = s.hdrSize := rfl
@[simp] theorem State.bodyChanged_hdrValid : s.bodyChanged.hdrValid = false := rfl
@[simp] theorem State.bodyChanged_itValid : s.bodyChanged.itValid = false := rfl
@[simp] theorem State.bodyChanged_itPos : s.bodyChanged.itPos = s.itPos := rfl
@[simp] theorem State.bodyChanged_itNum : s.bodyChanged.itNum = s.itNum := rfl
@[simp] theorem State.bodyChanged_msgType : s.bodyChanged.msgType = s.msgType := rfl
@[simp] theorem State.bodyChanged_tkl : s.bodyChanged.tkl = s.tkl := rfl
@[simp] theorem State.bodyChanged_msgCode : s.bodyChanged.msgCode = s.msgCode := rfl
@[simp] theorem State.bodyChanged_msgId : s.bodyChanged.msgId = s.msgId := rfl
@[simp] theorem State.bodyChanged_used : s.bodyChanged.used = s.used := rfl
@[simp] theorem State.bodyChanged_alloc : s.bodyChanged.alloc = s.alloc := rfl
@[simp] theorem State.bodyChanged_maxSize : s.bodyChanged.maxSize = s.maxSize := rfl
@[simp] theorem State.bodyChanged_cfg : s.bodyChanged.cfg = s.cfg := rfl
@[simp] theorem State.bodyChanged_mem : s.bodyChanged.mem = s.mem := rfl
@[simp] theorem State.bodyChanged_host : s.bodyChanged.host = s.host := rfl
@[simp] theorem State.bodyChanged_rdata : s.bodyChanged.rdata = s.rdata := rfl
@[simp] theorem State.bodyChanged_draws : s.bodyChanged.draws = s.draws := rfl
@[simp] theorem State.bodyChanged_epoch : s.bodyChanged.epoch = s.epoch := rfl

/-! ### headerFieldChanged -/

@[simp] theorem State.headerFieldChanged_cmd : s.headerFieldChanged.cmd = s.cmd := rfl
@[simp] theorem State.headerFieldChanged_arg0 : s.headerFieldChanged.arg0 = s.arg0 := rfl
@[simp] theorem State.headerFieldChanged_arg1 : s.headerFieldChanged.arg1 = s.arg1 := rfl
@[simp] theorem State.headerFieldChanged_status : s.headerFieldChanged.status = s.status := rfl
@[simp] theorem State.headerFieldChanged_res0 : s.headerFieldChanged.res0 = s.res0 := rfl
@[simp] theorem State.headerFieldChanged_res1 : s.headerFieldChanged.res1 = s.res1 := rfl
@[simp] theorem State.headerFieldChanged_res2 : s.headerFieldChanged.res2 = s.res2 := rfl
@[simp] theorem State.headerFieldChanged_res3 : s.headerFieldChanged.res3 = s.res3 := rfl
@[simp] theorem State.headerFieldChanged_proto : s.headerFieldChanged.proto = s.proto := rfl
@[simp] theorem State.headerFieldChanged_maxHdr : s.headerFieldChanged.maxHdr = s.maxHdr := rfl
@[simp] theorem State.headerFieldChanged_hdrSize : s.headerFieldChanged.hdrSize = s.hdrSize := rfl
@[simp] theorem State.headerFieldChanged_hdrValid : s.headerFieldChanged.hdrValid = false := rfl
@[simp] theorem State.headerFieldChanged_itValid : s.headerFieldChanged.itValid = s.itValid := rfl
@[simp] theorem State.headerFieldChanged_itPos : s.headerFieldChanged.itPos = s.itPos := rfl
@[simp] theorem State.headerFieldChanged_itNum : s.headerFieldChanged.itNum = s.itNum := rfl
@[simp] theorem State.headerFieldChanged_msgType : s.headerFieldChanged.msgType = s.msgType := rfl
@[simp] theorem State.headerFieldChanged_tkl : s.headerFieldChanged.tkl = s.tkl := rfl
@[simp] theorem State.headerFieldChanged_msgCode : s.headerFieldChanged.msgCode = s.msgCode := rfl
@[simp] theorem State.headerFieldChanged_msgId : s.headerFieldChanged.msgId = s.msgId := rfl
@[simp] theorem State.headerFieldChanged_used : s.headerFieldChanged.used = s.used := rfl
@[simp] theorem State.headerFieldChanged_alloc : s.headerFieldChanged.alloc = s.alloc := rfl
@[simp] theorem State.headerFieldChanged_maxSize : s.headerFieldChanged.maxSize = s.maxSize := rfl
@[simp] theorem State.headerFieldChanged_cfg : s.headerFieldChanged.cfg = s.cfg := rfl
@[simp] theorem State.headerFieldChanged_mem : s.headerFieldChanged.mem = s.mem := rfl
@[simp] theorem State.headerFieldChanged_host : s.headerFieldChanged.host = s.host := rfl
@[simp] theorem State.headerFieldChanged_rdata : s.headerFieldChanged.rdata = s.rdata := rfl
@[simp] theorem State.headerFieldChanged_draws : s.headerFieldChanged.draws = s.draws := rfl
@[simp] theorem State.headerFieldChanged_epoch : s.headerFieldChanged.epoch = s.epoch := rfl

/-! ### emptied -/

@[simp] theorem State.emptied_cmd : s.emptied.cmd = s.cmd := rfl
@[simp] theorem State.emptied_arg0 : s.emptied.arg0 = s.arg0 := rfl
@[simp] theorem State.emptied_arg1 : s.emptied.arg1 = s.arg1 := rfl
@[simp] theorem State.emptied_status : s.emptied.status = s.status := rfl
@[simp] theorem State.emptied_res0 : s.emptied.res0 = s.res0 := rfl
@[simp] theorem State.emptied_res1 : s.emptied.res1 = s.res1 := rfl
@[simp] theorem State.emptied_res2 : s.emptied.res2 = s.res2 := rfl
@[simp] theorem State.emptied_res3 : s.emptied.res3 = s.res3 := rfl
@[simp] theorem State.emptied_proto : s.emptied.proto = s.proto := rfl
@[simp] theorem State.emptied_maxHdr : s.emptied.maxHdr = s.maxHdr := rfl
@[simp] theorem State.emptied_hdrSize : s.emptied.hdrSize = 0 := rfl
@[simp] theorem State.emptied_hdrValid : s.emptied.hdrValid = false := rfl
@[simp] theorem State.emptied_itValid : s.emptied.itValid = false := rfl
@[simp] theorem State.emptied_itPos : s.emptied.itPos = 0 := rfl
@[simp] theorem State.emptied_itNum : s.emptied.itNum = 0 := rfl
@[simp] theorem State.emptied_msgType : s.emptied.msgType = 0 := rfl
@[simp] theorem State.emptied_tkl : s.emptied.tkl = 0 := rfl
@[simp] theorem State.emptied_msgCode : s.emptied.msgCode = 0 := rfl
@[simp] theorem State.emptied_msgId : s.emptied.msgId = 0 := rfl
@[simp] theorem State.emptied_used : s.emptied.used = 0 := rfl
@[simp] theorem State.emptied_alloc : s.emptied.alloc = s.alloc := rfl
@[simp] theorem State.emptied_maxSize : s.emptied.maxSize = s.maxSize := rfl
@[simp] theorem State.emptied_cfg : s.emptied.cfg = s.cfg := rfl
@[simp] theorem State.emptied_mem : s.emptied.mem = s.mem := rfl
@[simp] theorem State.emptied_host : s.emptied.host = s.host := rfl
@[simp] theorem State.emptied_rdata : s.emptied.rdata = s.rdata := rfl
@[simp] theorem State.emptied_draws : s.emptied.draws = s.draws := rfl
@[simp] theorem State.emptied_epoch : s.emptied.epoch = s.epoch := rfl

/-! ### constructed -/

@[simp] theorem State.constructed_cmd (p : Transport) (a0 : Nat) : (s.constructed p a0).cmd = s.cmd := rfl
@[simp] theorem State.constructed_arg0 (p : Transport) (a0 : Nat) : (s.constructed p a0).arg0 = s.arg0 := rfl
@[simp] theorem State.constructed_arg1 (p : Transport) (a0 : Nat) : (s.constructed p a0).arg1 = s.arg1 := rfl
@[simp] theorem State.constructed_status (p : Transport) (a0 : Nat) : (s.constructed p a0).status = s.status := rfl
@[simp] theorem State.constructed_res0 (p : Transport) (a0 : Nat) : (s.constructed p a0).res0 = s.res0 := rfl
@[simp] theorem State.constructed_res1 (p : Transport) (a0 : Nat) : (s.constructed p a0).res1 = s.res1 := rfl
@[simp] theorem State.constructed_res2 (p : Transport) (a0 : Nat) : (s.constructed p a0).res2 = s.res2 := rfl
@[simp] theorem State.constructed_res3 (p : Transport) (a0 : Nat) : (s.constructed p a0).res3 = s.res3 := rfl
@[simp] theorem State.constructed_proto (p : Transport) (a0 : Nat) : (s.constructed p a0).proto = p := rfl
@[simp] theorem State.constructed_maxHdr (p : Transport) (a0 : Nat) : (s.constructed p a0).maxHdr = hdrReserve p := rfl
@[simp] theorem State.constructed_hdrSize (p : Transport) (a0 : Nat) : (s.constructed p a0).hdrSize = 0 := rfl
@[simp] theorem State.constructed_hdrValid (p : Transport) (a0 : Nat) : (s.constructed p a0).hdrValid = false := rfl
@[simp] theorem State.constructed_itValid (p : Transport) (a0 : Nat) : (s.constructed p a0).itValid = false := rfl
@[simp] theorem State.constructed_itPos (p : Transport) (a0 : Nat) : (s.constructed p a0).itPos = 0 := rfl
@[simp] theorem State.constructed_itNum (p : Transport) (a0 : Nat) : (s.constructed p a0).itNum = 0 := rfl
@[simp] theorem State.constructed_msgType (p : Transport) (a0 : Nat) : (s.constructed p a0).msgType = 0 := rfl
@[simp] theorem State.constructed_tkl (p : Transport) (a0 : Nat) : (s.constructed p a0).tkl = 0 := rfl
@[simp] theorem State.constructed_msgCode (p : Transport) (a0 : Nat) : (s.constructed p a0).msgCode = 0 := rfl
@[simp] theorem State.constructed_msgId (p : Transport) (a0 : Nat) : (s.constructed p a0).msgId = 0 := rfl
@[simp] theorem State.constructed_used (p : Transport) (a0 : Nat) : (s.constructed p a0).used = 0 := rfl
@[simp] theorem State.constructed_alloc (p : Transport) (a0 : Nat) : (s.constructed p a0).alloc = BitVec.ofNat 32 a0 := rfl
@[simp] theorem State.constructed_maxSize (p : Transport) (a0 : Nat) : (s.constructed p a0).maxSize = s.arg1 := rfl
@[simp] theorem State.constructed_cfg (p : Transport) (a0 : Nat) : (s.constructed p a0).cfg = s.cfg := rfl
@[simp] theorem State.constructed_mem (p : Transport) (a0 : Nat) : (s.constructed p a0).mem = s.mem := rfl
@[simp] theorem State.constructed_host (p : Transport) (a0 : Nat) : (s.constructed p a0).host = s.host := rfl
@[simp] theorem State.constructed_rdata (p : Transport) (a0 : Nat) : (s.constructed p a0).rdata = s.rdata := rfl
@[simp] theorem State.constructed_draws (p : Transport) (a0 : Nat) : (s.constructed p a0).draws = s.draws := rfl
@[simp] theorem State.constructed_epoch (p : Transport) (a0 : Nat) : (s.constructed p a0).epoch = s.epoch := rfl

/-! ### putBody -/

@[simp] theorem State.putBody_cmd (nb : List Byte) (ntkl a : Nat) : (s.putBody nb ntkl a).cmd = s.cmd := rfl
@[simp] theorem State.putBody_arg0 (nb : List Byte) (ntkl a : Nat) : (s.putBody nb ntkl a).arg0 = s.arg0 := rfl
@[simp] theorem State.putBody_arg1 (nb : List Byte) (ntkl a : Nat) : (s.putBody nb ntkl a).arg1 = s.arg1 := rfl
@[simp] theorem State.putBody_status (nb : List Byte) (ntkl a : Nat) : (s.putBody nb ntkl a).status = s.status := rfl
@[simp] theorem State.putBody_res0 (nb : List Byte) (ntkl a : Nat) : (s.putBody nb ntkl a).res0 = s.res0 := rfl
@[simp] theorem State.putBody_res1 (nb : List Byte) (ntkl a : Nat) : (s.putBody nb ntkl a).res1 = s.res1 := rfl
@[simp] theorem State.putBody_res2 (nb : List Byte) (ntkl a : Nat) : (s.putBody nb ntkl a).res2 = s.res2 := rfl
@[simp] theorem State.putBody_res3 (nb : List Byte) (ntkl a : Nat) : (s.putBody nb ntkl a).res3 = s.res3 := rfl
@[simp] theorem State.putBody_proto (nb : List Byte) (ntkl a : Nat) : (s.putBody nb ntkl a).proto = s.proto := rfl
@[simp] theorem State.putBody_maxHdr (nb : List Byte) (ntkl a : Nat) : (s.putBody nb ntkl a).maxHdr = s.maxHdr := rfl
@[simp] theorem State.putBody_hdrSize (nb : List Byte) (ntkl a : Nat) : (s.putBody nb ntkl a).hdrSize = s.hdrSize := rfl
@[simp] theorem State.putBody_hdrValid (nb : List Byte) (ntkl a : Nat) : (s.putBody nb ntkl a).hdrValid = false := rfl
@[simp] theorem State.putBody_itValid (nb : List Byte) (ntkl a : Nat) : (s.putBody nb ntkl a).itValid = false := rfl
@[simp] theorem State.putBody_itPos (nb : List Byte) (ntkl a : Nat) : (s.putBody nb ntkl a).itPos = s.itPos := rfl
@[simp] theorem State.putBody_itNum (nb : List Byte) (ntkl a : Nat) : (s.putBody nb ntkl a).itNum = s.itNum := rfl
@[simp] theorem State.putBody_msgType (nb : List Byte) (ntkl a : Nat) : (s.putBody nb ntkl a).msgType = s.msgType := rfl
@[simp] theorem State.putBody_tkl (nb : List Byte) (ntkl a : Nat) : (s.putBody nb ntkl a).tkl = BitVec.ofNat 4 ntkl := rfl
@[simp] theorem State.putBody_msgCode (nb : List Byte) (ntkl a : Nat) : (s.putBody nb ntkl a).msgCode = s.msgCode := rfl
@[simp] theorem State.putBody_msgId (nb : List Byte) (ntkl a : Nat) : (s.putBody nb ntkl a).msgId = s.msgId := rfl
@[simp] theorem State.putBody_used (nb : List Byte) (ntkl a : Nat) : (s.putBody nb ntkl a).used = BitVec.ofNat 32 nb.length := rfl
@[simp] theorem State.putBody_alloc (nb : List Byte) (ntkl a : Nat) : (s.putBody nb ntkl a).alloc = BitVec.ofNat 32 a := rfl
@[simp] theorem State.putBody_maxSize (nb : List Byte) (ntkl a : Nat) : (s.putBody nb ntkl a).maxSize = s.maxSize := rfl
@[simp] theorem State.putBody_cfg (nb : List Byte) (ntkl a : Nat) : (s.putBody nb ntkl a).cfg = s.cfg := rfl
@[simp] theorem State.putBody_mem (nb : List Byte) (ntkl a : Nat) : (s.putBody nb ntkl a).mem = (s.mem.memWrite s.maxHdr.toNat nb).storeForget (s.maxHdr.toNat + nb.length) := rfl
@[simp] theorem State.putBody_host (nb : List Byte) (ntkl a : Nat) : (s.putBody nb ntkl a).host = s.host := rfl
@[simp] theorem State.putBody_rdata (nb : List Byte) (ntkl a : Nat) : (s.putBody nb ntkl a).rdata = s.rdata := rfl
@[simp] theorem State.putBody_draws (nb : List Byte) (ntkl a : Nat) : (s.putBody nb ntkl a).draws = s.draws := rfl
@[simp] theorem State.putBody_epoch (nb : List Byte) (ntkl a : Nat) : (s.putBody nb ntkl a).epoch = s.epoch := rfl

/-! ### putFrame -/

@[simp] theorem State.putFrame_cmd (p : Transport) (h : Header) (hdr body : List Byte) (a : Nat) : (s.putFrame p h hdr body a).cmd = s.cmd := rfl
@[simp] theorem State.putFrame_arg0 (p : Transport) (h : Header) (hdr body : List Byte) (a : Nat) : (s.putFrame p h hdr body a).arg0 = s.arg0 := rfl
@[simp] theorem State.putFrame_arg1 (p : Transport) (h : Header) (hdr body : List Byte) (a : Nat) : (s.putFrame p h hdr body a).arg1 = s.arg1 := rfl
@[simp] theorem State.putFrame_status (p : Transport) (h : Header) (hdr body : List Byte) (a : Nat) : (s.putFrame p h hdr body a).status = s.status := rfl
@[simp] theorem State.putFrame_res0 (p : Transport) (h : Header) (hdr body : List Byte) (a : Nat) : (s.putFrame p h hdr body a).res0 = s.res0 := rfl
@[simp] theorem State.putFrame_res1 (p : Transport) (h : Header) (hdr body : List Byte) (a : Nat) : (s.putFrame p h hdr body a).res1 = s.res1 := rfl
@[simp] theorem State.putFrame_res2 (p : Transport) (h : Header) (hdr body : List Byte) (a : Nat) : (s.putFrame p h hdr body a).res2 = s.res2 := rfl
@[simp] theorem State.putFrame_res3 (p : Transport) (h : Header) (hdr body : List Byte) (a : Nat) : (s.putFrame p h hdr body a).res3 = s.res3 := rfl
@[simp] theorem State.putFrame_proto (p : Transport) (h : Header) (hdr body : List Byte) (a : Nat) : (s.putFrame p h hdr body a).proto = p := rfl
@[simp] theorem State.putFrame_maxHdr (p : Transport) (h : Header) (hdr body : List Byte) (a : Nat) : (s.putFrame p h hdr body a).maxHdr = hdrReserve p := rfl
@[simp] theorem State.putFrame_hdrSize (p : Transport) (h : Header) (hdr body : List Byte) (a : Nat) : (s.putFrame p h hdr body a).hdrSize = BitVec.ofNat 3 h.hs := rfl
@[simp] theorem State.putFrame_hdrValid (p : Transport) (h : Header) (hdr body : List Byte) (a : Nat) : (s.putFrame p h hdr body a).hdrValid = true := rfl
@[simp] theorem State.putFrame_itValid (p : Transport) (h : Header) (hdr body : List Byte) (a : Nat) : (s.putFrame p h hdr body a).itValid = false := rfl
@[simp] theorem State.putFrame_itPos (p : Transport) (h : Header) (hdr body : List Byte) (a : Nat) : (s.putFrame p h hdr body a).itPos = s.itPos := rfl
@[simp] theorem State.putFrame_itNum (p : Transport) (h : Header) (hdr body : List Byte) (a : Nat) : (s.putFrame p h hdr body a).itNum = s.itNum := rfl
@[simp] theorem State.putFrame_msgType (p : Transport) (h : Header) (hdr body : List Byte) (a : Nat) : (s.putFrame p h hdr body a).msgType = onDgram p h.type := rfl
@[simp] theorem State.putFrame_tkl (p : Transport) (h : Header) (hdr body : List Byte) (a : Nat) : (s.putFrame p h hdr body a).tkl = BitVec.ofNat 4 h.tkl := rfl
@[simp] theorem State.putFrame_msgCode (p : Transport) (h : Header) (hdr body : List Byte) (a : Nat) : (s.putFrame p h hdr body a).msgCode = h.code.getD 0 := rfl
@[simp] theorem State.putFrame_msgId (p : Transport) (h : Header) (hdr body : List Byte) (a : Nat) : (s.putFrame p h hdr body a).msgId = onDgram p h.mid := rfl
@[simp] theorem State.putFrame_used (p : Transport) (h : Header) (hdr body : List Byte) (a : Nat) : (s.putFrame p h hdr body a).used = BitVec.ofNat 32 body.length := rfl
@[simp] theorem State.putFrame_alloc (p : Transport) (h : Header) (hdr body : List Byte) (a : Nat) : (s.putFrame p h hdr body a).alloc = BitVec.ofNat 32 a := rfl
@[simp] theorem State.putFrame_maxSize (p : Transport) (h : Header) (hdr body : List Byte) (a : Nat) : (s.putFrame p h hdr body a).maxSize = s.maxSize := rfl
@[simp] theorem State.putFrame_cfg (p : Transport) (h : Header) (hdr body : List Byte) (a : Nat) : (s.putFrame p h hdr body a).cfg = s.cfg := rfl
@[simp] theorem State.putFrame_mem (p : Transport) (h : Header) (hdr body : List Byte) (a : Nat) : (s.putFrame p h hdr body a).mem = ((s.mem.memWrite ((hdrReserve p).toNat - h.hs) hdr).memWrite (hdrReserve p).toNat body).storeForget
      ((hdrReserve p).toNat + body.length) := rfl
@[simp] theorem State.putFrame_host (p : Transport) (h : Header) (hdr body : List Byte) (a : Nat) : (s.putFrame p h hdr body a).host = s.host := rfl
@[simp] theorem State.putFrame_rdata (p : Transport) (h : Header) (hdr body : List Byte) (a : Nat) : (s.putFrame p h hdr body a).rdata = s.rdata := rfl
@[simp] theorem State.putFrame_draws (p : Transport) (h : Header) (hdr body : List Byte) (a : Nat) : (s.putFrame p h hdr body a).draws = s.draws := rfl
@[simp] theorem State.putFrame_epoch (p : Transport) (h : Header) (hdr body : List Byte) (a : Nat) : (s.putFrame p h hdr body a).epoch = s.epoch := rfl

/-! ### putHeader -/

@[simp] theorem State.putHeader_cmd (r : List Byte) : (s.putHeader r).cmd = s.cmd := rfl
@[simp] theorem State.putHeader_arg0 (r : List Byte) : (s.putHeader r).arg0 = s.arg0 := rfl
@[simp] theorem State.putHeader_arg1 (r : List Byte) : (s.putHeader r).arg1 = s.arg1 := rfl
@[simp] theorem State.putHeader_status (r : List Byte) : (s.putHeader r).status = s.status := rfl
@[simp] theorem State.putHeader_res0 (r : List Byte) : (s.putHeader r).res0 = s.res0 := rfl
@[simp] theorem State.putHeader_res1 (r : List Byte) : (s.putHeader r).res1 = s.res1 := rfl
@[simp] theorem State.putHeader_res2 (r : List Byte) : (s.putHeader r).res2 = s.res2 := rfl
@[simp] theorem State.putHeader_res3 (r : List Byte) : (s.putHeader r).res3 = s.res3 := rfl
@[simp] theorem State.putHeader_proto (r : List Byte) : (s.putHeader r).proto = s.proto := rfl
@[simp] theorem State.putHeader_maxHdr (r : List Byte) : (s.putHeader r).maxHdr = s.maxHdr := rfl
@[simp] theorem State.putHeader_hdrSize (r : List Byte) : (s.putHeader r).hdrSize = BitVec.ofNat 3 r.length := rfl
@[simp] theorem State.putHeader_hdrValid (r : List Byte) : (s.putHeader r).hdrValid = true := rfl
@[simp] theorem State.putHeader_itValid (r : List Byte) : (s.putHeader r).itValid = s.itValid := rfl
@[simp] theorem State.putHeader_itPos (r : List Byte) : (s.putHeader r).itPos = s.itPos := rfl
@[simp] theorem State.putHeader_itNum (r : List Byte) : (s.putHeader r).itNum = s.itNum := rfl
@[simp] theorem State.putHeader_msgType (r : List Byte) : (s.putHeader r).msgType = s.msgType := rfl
@[simp] theorem State.putHeader_tkl (r : List Byte) : (s.putHeader r).tkl = s.tkl := rfl
@[simp] theorem State.putHeader_msgCode (r : List Byte) : (s.putHeader r).msgCode = s.msgCode := rfl
@[simp] theorem State.putHeader_msgId (r : List Byte) : (s.putHeader r).msgId = s.msgId := rfl
@[simp] theorem State.putHeader_used (r : List Byte) : (s.putHeader r).used = s.used := rfl
@[simp] theorem State.putHeader_alloc (r : List Byte) : (s.putHeader r).alloc = s.alloc := rfl
@[simp] theorem State.putHeader_maxSize (r : List Byte) : (s.putHeader r).maxSize = s.maxSize := rfl
@[simp] theorem State.putHeader_cfg (r : List Byte) : (s.putHeader r).cfg = s.cfg := rfl
@[simp] theorem State.putHeader_mem (r : List Byte) : (s.putHeader r).mem = s.mem.memWrite (s.maxHdr.toNat - r.length) r := rfl
@[simp] theorem State.putHeader_host (r : List Byte) : (s.putHeader r).host = s.host := rfl
@[simp] theorem State.putHeader_rdata (r : List Byte) : (s.putHeader r).rdata = s.rdata := rfl
@[simp] theorem State.putHeader_draws (r : List Byte) : (s.putHeader r).draws = s.draws := rfl
@[simp] theorem State.putHeader_epoch (r : List Byte) : (s.putHeader r).epoch = s.epoch := rfl

/-! ### pendCommand -/

@[simp] theorem State.pendCommand_cmd (w : Word) : (s.pendCommand w).cmd = s.cmd := rfl
@[simp] theorem State.pendCommand_arg0 (w : Word) : (s.pendCommand w).arg0 = s.arg0 := rfl
@[simp] theorem State.pendCommand_arg1 (w : Word) : (s.pendCommand w).arg1 = s.arg1 := rfl
@[simp] theorem State.pendCommand_status (w : Word) : (s.pendCommand w).status = s.status := rfl
@[simp] theorem State.pendCommand_res0 (w : Word) : (s.pendCommand w).res0 = s.res0 := rfl
@[simp] theorem State.pendCommand_res1 (w : Word) : (s.pendCommand w).res1 = s.res1 := rfl
@[simp] theorem State.pendCommand_res2 (w : Word) : (s.pendCommand w).res2 = s.res2 := rfl
@[simp] theorem State.pendCommand_res3 (w : Word) : (s.pendCommand w).res3 = s.res3 := rfl
@[simp] theorem State.pendCommand_proto (w : Word) : (s.pendCommand w).proto = s.proto := rfl
@[simp] theorem State.pendCommand_maxHdr (w : Word) : (s.pendCommand w).maxHdr = s.maxHdr := rfl
@[simp] theorem State.pendCommand_hdrSize (w : Word) : (s.pendCommand w).hdrSize = s.hdrSize := rfl
@[simp] theorem State.pendCommand_hdrValid (w : Word) : (s.pendCommand w).hdrValid = s.hdrValid := rfl
@[simp] theorem State.pendCommand_itValid (w : Word) : (s.pendCommand w).itValid = s.itValid := rfl
@[simp] theorem State.pendCommand_itPos (w : Word) : (s.pendCommand w).itPos = s.itPos := rfl
@[simp] theorem State.pendCommand_itNum (w : Word) : (s.pendCommand w).itNum = s.itNum := rfl
@[simp] theorem State.pendCommand_msgType (w : Word) : (s.pendCommand w).msgType = s.msgType := rfl
@[simp] theorem State.pendCommand_tkl (w : Word) : (s.pendCommand w).tkl = s.tkl := rfl
@[simp] theorem State.pendCommand_msgCode (w : Word) : (s.pendCommand w).msgCode = s.msgCode := rfl
@[simp] theorem State.pendCommand_msgId (w : Word) : (s.pendCommand w).msgId = s.msgId := rfl
@[simp] theorem State.pendCommand_used (w : Word) : (s.pendCommand w).used = s.used := rfl
@[simp] theorem State.pendCommand_alloc (w : Word) : (s.pendCommand w).alloc = s.alloc := rfl
@[simp] theorem State.pendCommand_maxSize (w : Word) : (s.pendCommand w).maxSize = s.maxSize := rfl
@[simp] theorem State.pendCommand_cfg (w : Word) : (s.pendCommand w).cfg = s.cfg := rfl
@[simp] theorem State.pendCommand_mem (w : Word) : (s.pendCommand w).mem = s.mem := rfl
@[simp] theorem State.pendCommand_host (w : Word) : (s.pendCommand w).host = .write .word 0 w :: s.host := rfl
@[simp] theorem State.pendCommand_rdata (w : Word) : (s.pendCommand w).rdata = s.rdata := rfl
@[simp] theorem State.pendCommand_draws (w : Word) : (s.pendCommand w).draws = s.draws := rfl
@[simp] theorem State.pendCommand_epoch (w : Word) : (s.pendCommand w).epoch = s.epoch := rfl

/-! ### The views under updates that leave the message alone -/

/-- Reading depends on the memory and the epoch alone. -/
theorem State.readBytes_congr {s t : State} (hm : s.mem = t.mem) (he : s.epoch = t.epoch) (a n : Nat) :
    s.readBytes a n = t.readBytes a n := by
  induction n generalizing a with
  | zero => rfl
  | succ n ih => simp [State.readBytes, State.peek, hm, he, ih]

/-- The body depends on the memory, the epoch, MAX_HDR and USED alone. -/
theorem State.body_congr {s t : State} (hm : s.mem = t.mem) (he : s.epoch = t.epoch) (hh : s.maxHdr = t.maxHdr)
    (hu : s.used = t.used) : s.body = t.body := by
  simp [State.body, State.memRead, hh, hu, State.readBytes_congr hm he]

/-- The logical views depend on the same and TKL. -/
theorem State.contents_congr {s t : State} (hm : s.mem = t.mem) (he : s.epoch = t.epoch) (hh : s.maxHdr = t.maxHdr)
    (hu : s.used = t.used) (ht : s.tkl = t.tkl) : s.contents = t.contents := by
  simp [State.contents, State.rest, State.body_congr hm he hh hu, ht]

@[simp] theorem State.raise_readBytes (c : Completion) (x k : Nat) : (s.raise c).readBytes x k = s.readBytes x k := State.readBytes_congr (by rfl) (by rfl) x k
@[simp] theorem State.raise_body (c : Completion) : (s.raise c).body = s.body := State.body_congr (by rfl) (by rfl) (by rfl) (by rfl)
@[simp] theorem State.raise_contents (c : Completion) : (s.raise c).contents = s.contents := State.contents_congr (by rfl) (by rfl) (by rfl) (by rfl) (by rfl)
@[simp] theorem State.raise_limit (c : Completion) : (s.raise c).limit = s.limit := rfl
@[simp] theorem State.raise_grow (c : Completion) (k : Nat) : (s.raise c).grow k = s.grow k := rfl
@[simp] theorem State.finish_readBytes (r0 r1 r2 r3 : Nat) (x k : Nat) : (s.finish r0 r1 r2 r3).readBytes x k = s.readBytes x k := State.readBytes_congr (by rfl) (by rfl) x k
@[simp] theorem State.finish_body (r0 r1 r2 r3 : Nat) : (s.finish r0 r1 r2 r3).body = s.body := State.body_congr (by rfl) (by rfl) (by rfl) (by rfl)
@[simp] theorem State.finish_contents (r0 r1 r2 r3 : Nat) : (s.finish r0 r1 r2 r3).contents = s.contents := State.contents_congr (by rfl) (by rfl) (by rfl) (by rfl) (by rfl)
@[simp] theorem State.finish_limit (r0 r1 r2 r3 : Nat) : (s.finish r0 r1 r2 r3).limit = s.limit := rfl
@[simp] theorem State.finish_grow (r0 r1 r2 r3 : Nat) (k : Nat) : (s.finish r0 r1 r2 r3).grow k = s.grow k := rfl
@[simp] theorem State.drawn_readBytes (n : Nat) (x k : Nat) : (s.drawn n).readBytes x k = s.readBytes x k := State.readBytes_congr (by rfl) (by rfl) x k
@[simp] theorem State.drawn_body (n : Nat) : (s.drawn n).body = s.body := State.body_congr (by rfl) (by rfl) (by rfl) (by rfl)
@[simp] theorem State.drawn_contents (n : Nat) : (s.drawn n).contents = s.contents := State.contents_congr (by rfl) (by rfl) (by rfl) (by rfl) (by rfl)
@[simp] theorem State.drawn_limit (n : Nat) : (s.drawn n).limit = s.limit := rfl
@[simp] theorem State.headerFieldChanged_readBytes (x k : Nat) : s.headerFieldChanged.readBytes x k = s.readBytes x k := State.readBytes_congr (by rfl) (by rfl) x k
@[simp] theorem State.headerFieldChanged_body : s.headerFieldChanged.body = s.body := State.body_congr (by rfl) (by rfl) (by rfl) (by rfl)
@[simp] theorem State.headerFieldChanged_contents : s.headerFieldChanged.contents = s.contents := State.contents_congr (by rfl) (by rfl) (by rfl) (by rfl) (by rfl)
@[simp] theorem State.headerFieldChanged_limit : s.headerFieldChanged.limit = s.limit := rfl
@[simp] theorem State.headerFieldChanged_grow (k : Nat) : s.headerFieldChanged.grow k = s.grow k := rfl
@[simp] theorem State.bodyChanged_readBytes (x k : Nat) : s.bodyChanged.readBytes x k = s.readBytes x k := State.readBytes_congr (by rfl) (by rfl) x k
@[simp] theorem State.bodyChanged_body : s.bodyChanged.body = s.body := State.body_congr (by rfl) (by rfl) (by rfl) (by rfl)
@[simp] theorem State.bodyChanged_contents : s.bodyChanged.contents = s.contents := State.contents_congr (by rfl) (by rfl) (by rfl) (by rfl) (by rfl)
@[simp] theorem State.bodyChanged_limit : s.bodyChanged.limit = s.limit := rfl
@[simp] theorem State.bodyChanged_grow (k : Nat) : s.bodyChanged.grow k = s.grow k := rfl

end Sys2Proof.Machine
end

