-- ==== Sys2Proof/Laws/Memory.lean ====
section
/-! SUPPORT. The laws of memory: what a byte reads as after a write, that every operation keeps the canonical form, and what the
byte sequences of the two arrays read as. -/

namespace Sys2Proof.Machine

/-! ### One byte -/

@[simp] theorem Memory.read_nil (a : Nat) : Memory.read [] a = none := rfl

@[simp] theorem Memory.read_write_same (m : Memory) (a : Nat) (b : Byte) : (m.write a b).read a = some b := by
  induction m with
  | nil => simp [Memory.write, Memory.read]
  | cons c m ih =>
    obtain ⟨k, d⟩ := c
    simp only [Memory.write]
    split
    · simp [Memory.read]
    · split
      · simp [Memory.read]
      · have hk : k ≠ a := by omega
        simpa [Memory.read, hk] using ih

theorem Memory.read_write_other (m : Memory) {a x : Nat} (b : Byte) (h : x ≠ a) : (m.write a b).read x = m.read x := by
  induction m with
  | nil => simp [Memory.write, Memory.read, Ne.symm h]
  | cons c m ih =>
    obtain ⟨k, d⟩ := c
    simp only [Memory.write]
    split
    · simp [Memory.read, Ne.symm h]
    · split
      · next hak => subst hak; simp [Memory.read, Ne.symm h]
      · by_cases hk : k = x <;> simp [Memory.read, hk, ih]

/-- Every address that is listed after a write was listed before or is the one written. -/
theorem Memory.mem_write_keys {m : Memory} {a : Nat} {b : Byte} {x : Nat} (h : x ∈ (m.write a b).map Prod.fst) :
    x = a ∨ x ∈ m.map Prod.fst := by
  induction m with
  | nil => simpa [Memory.write] using h
  | cons c m ih =>
    obtain ⟨k, d⟩ := c
    simp only [Memory.write] at h
    split at h
    · simpa using h
    · split at h
      · next hak => subst hak; simp only [List.map_cons, List.mem_cons] at h ⊢; tauto
      · simp only [List.map_cons, List.mem_cons] at h ⊢
        rcases h with h | h
        · exact .inr (.inl h)
        · exact (ih h).imp id .inr

theorem Memory.write_wf {m : Memory} (h : m.wf) (a : Nat) (b : Byte) : (m.write a b).wf := by
  induction m with
  | nil => simp [Memory.wf, Memory.write]
  | cons c m ih =>
    obtain ⟨k, d⟩ := c
    have hc := List.pairwise_cons.mp h
    simp only [Memory.write]
    split
    · next hak =>
      refine List.pairwise_cons.mpr ⟨fun x hx => ?_, h⟩
      rcases List.mem_cons.mp hx with rfl | hx
      · exact hak
      · exact hak.trans (hc.1 x hx)
    · split
      · next hak => subst hak; exact h
      · next h1 h2 =>
        refine List.pairwise_cons.mpr ⟨fun x hx => ?_, ih hc.2⟩
        rcases Memory.mem_write_keys hx with rfl | hx
        · show k < x; omega
        · exact hc.1 x hx

theorem Memory.dropFrom_wf {m : Memory} (h : m.wf) (a : Nat) : (m.dropFrom a).wf := by
  have hs : ((m.filter fun c => decide (c.1 < a)).map Prod.fst).Sublist (m.map Prod.fst) :=
    List.Sublist.map Prod.fst List.filter_sublist
  exact List.Pairwise.sublist hs h

theorem Memory.read_dropFrom_below (m : Memory) {a x : Nat} (h : x < a) : (m.dropFrom a).read x = m.read x := by
  induction m with
  | nil => rfl
  | cons c m ih =>
    obtain ⟨k, d⟩ := c
    simp only [Memory.dropFrom, List.filter_cons] at ih ⊢
    by_cases hk : k = x
    · subst hk; simp [h, Memory.read]
    · split <;> simp [Memory.read, hk, ih]

theorem Memory.read_dropFrom_from (m : Memory) {a x : Nat} (h : a ≤ x) : (m.dropFrom a).read x = none := by
  induction m with
  | nil => rfl
  | cons c m ih =>
    obtain ⟨k, d⟩ := c
    simp only [Memory.dropFrom, List.filter_cons] at ih ⊢
    split
    · next hk =>
      have : k ≠ x := by simp at hk; omega
      simp [Memory.read, this, ih]
    · exact ih

/-! ### Byte sequences -/

theorem Memory.writeBytes_wf {m : Memory} (h : m.wf) (a : Nat) (bs : List Byte) : (m.writeBytes a bs).wf := by
  induction bs generalizing m a with
  | nil => exact h
  | cons b bs ih => exact ih (Memory.write_wf h a b) (a + 1)

theorem Memory.read_writeBytes_outside (m : Memory) (a : Nat) (bs : List Byte) {x : Nat}
    (h : x < a ∨ a + bs.length ≤ x) : (m.writeBytes a bs).read x = m.read x := by
  induction bs generalizing m a with
  | nil => rfl
  | cons b bs ih =>
    simp only [List.length_cons] at h
    rw [Memory.writeBytes, ih (m.write a b) (a + 1) (by omega), Memory.read_write_other m b (by omega)]

theorem Memory.read_writeBytes_inside (m : Memory) (a : Nat) (bs : List Byte) {i : Nat} (h : i < bs.length) :
    (m.writeBytes a bs).read (a + i) = some bs[i] := by
  induction bs generalizing m a i with
  | nil => simp at h
  | cons b bs ih =>
    rw [Memory.writeBytes]
    cases i with
    | zero => rw [Memory.read_writeBytes_outside _ _ _ (by omega)]; simp
    | succ i =>
      have := ih (m.write a b) (a + 1) (i := i) (by simpa using h)
      simpa [Nat.add_assoc, Nat.add_comm 1] using this

theorem Memory.memWrite_wf {m : Memory} (h : m.wf) (o : Nat) (v : List Byte) : (m.memWrite o v).wf :=
  Memory.writeBytes_wf h _ v

theorem Memory.storeForget_wf {m : Memory} (h : m.wf) (o : Nat) : (m.storeForget o).wf := Memory.dropFrom_wf h _

@[simp] theorem State.readBytes_length (s : State) (a n : Nat) : (s.readBytes a n).length = n := by
  induction n generalizing a with
  | zero => rfl
  | succ n ih => simp [State.readBytes, ih]

@[simp] theorem State.getElem_readBytes (s : State) (a n i : Nat) (h : i < (s.readBytes a n).length) :
    (s.readBytes a n)[i] = s.peek (a + i) := by
  induction n generalizing a i with
  | zero => simp [State.readBytes] at h
  | succ n ih =>
    cases i with
    | zero => rfl
    | succ i =>
      have := ih (a + 1) i (by simpa [State.readBytes] using h)
      simp only [State.readBytes, List.getElem_cons_succ, this]
      congr 1
      omega

/-- What a stretch of memory reads as, byte by byte. -/
theorem State.readBytes_eq {s : State} {a : Nat} {v : List Byte} (h : ∀ i (hi : i < v.length), s.mem.read (a + i) = some v[i]) :
    s.readBytes a v.length = v := by
  refine List.ext_getElem (by simp) fun i h1 h2 => ?_
  rw [State.getElem_readBytes, State.peek, h i h2]
  rfl

@[simp] theorem State.memRead_length (s : State) (o n : Nat) : (s.memRead o n).length = n := State.readBytes_length ..

@[simp] theorem State.inRead_length (s : State) (a n : Nat) : (s.inRead a n).length = n := State.readBytes_length ..

@[simp] theorem State.bytes0_length (s : State) : s.bytes0.length = s.a0 := State.inRead_length ..

@[simp] theorem State.bytes1_length (s : State) : s.bytes1.length = s.a1 := State.inRead_length ..

@[simp] theorem State.body_length (s : State) : s.body.length = s.used.toNat := State.memRead_length ..

theorem State.rest_length (s : State) : s.rest.length = s.used.toNat - s.tkl.toNat := by simp [State.rest]

/-- INBUF lies below the store. -/
theorem inbuf_below_store {i : Nat} (h : i < 1073741824) : inbufBase + i < storeBase := by
  unfold inbufBase storeBase; omega

end Sys2Proof.Machine
end

