-- ==== Sys2Proof/Laws/Ops.lean ====
section
/-! SUPPORT. What each shared operation can do, said once: the allocator's answers, the committed body, and the outcomes of
CommitBody. -/

namespace Sys2Proof.Machine

/-! ### Draws -/

theorem drawIn_le {lo hi : Nat} (x : Nat) (h : lo ≤ hi) : drawIn lo hi x ≤ hi := by
  have : x % (hi - lo + 1) < hi - lo + 1 := Nat.mod_lt x (Nat.succ_pos _)
  unfold drawIn; omega

theorem le_drawIn (lo hi x : Nat) : lo ≤ drawIn lo hi x := Nat.le_add_right ..

/-- Every number of the range is the answer for some draw (R231). -/
theorem drawIn_onto {lo hi y : Nat} (h : lo ≤ y) (h' : y ≤ hi) : ∃ x, drawIn lo hi x = y :=
  ⟨y - lo, by unfold drawIn; rw [Nat.mod_eq_of_lt (by omega)]; omega⟩

theorem State.limit_lt (s : State) : s.limit < 4294967296 := by
  unfold State.limit; split <;> exact BitVec.isLt _

/-! ### The allocator -/

theorem State.grow_kept {s : State} {need : Nat} (h : need ≤ s.alloc.toNat) :
    s.grow need = ⟨some s.alloc.toNat, s.draws⟩ := by simp [State.grow, h]

theorem State.grow_too_big {s : State} {need : Nat} (h : s.alloc.toNat < need) (h' : s.cfg.storeBytes.toNat < need) :
    s.grow need = ⟨none, s.draws⟩ := by simp [State.grow, h, h']

/-- Everything Grow can answer with a capacity (R231): the old one where it suffices, and otherwise, after one draw, one between
the need and both ceilings. -/
theorem State.grow_some {s : State} {need a d : Nat} (hl : need ≤ s.limit) (h : s.grow need = ⟨some a, d⟩) :
    (need ≤ s.alloc.toNat ∧ a = s.alloc.toNat ∧ d = s.draws) ∨
      (s.alloc.toNat < need ∧ need ≤ a ∧ a ≤ s.limit ∧ a ≤ s.cfg.storeBytes.toNat ∧ Config.allocOk s.draws = true ∧
        d = s.draws + 1) := by
  unfold State.grow at h
  split at h
  · simp only [Grant.mk.injEq, Option.some.injEq] at h
    exact .inl ⟨‹_›, h.1.symm, h.2.symm⟩
  · split at h
    · simp at h
    · split at h
      · simp only [Grant.mk.injEq, Option.some.injEq] at h
        obtain ⟨rfl, rfl⟩ := h
        have := drawIn_le (Config.allocAmount s.draws) (show need ≤ min s.limit s.cfg.storeBytes.toNat by omega)
        exact .inr ⟨by omega, le_drawIn .., by omega, by omega, ‹_›, rfl⟩
      · simp at h

/-- A refusal of Grow (R231): above P_STORE_BYTES without a draw, or the oracle's. -/
theorem State.grow_none {s : State} {need d : Nat} (h : s.grow need = ⟨none, d⟩) :
    s.alloc.toNat < need ∧
      ((s.cfg.storeBytes.toNat < need ∧ d = s.draws) ∨ (Config.allocOk s.draws = false ∧ d = s.draws + 1)) := by
  unfold State.grow at h
  split at h
  · simp at h
  · split at h
    · simp only [Grant.mk.injEq, true_and] at h
      exact ⟨by omega, .inl ⟨‹_›, h.symm⟩⟩
    · split at h
      · simp at h
      · simp only [Grant.mk.injEq, true_and] at h
        exact ⟨by omega, .inr ⟨Bool.eq_false_iff.mpr ‹_›, h.symm⟩⟩

/-! ### A committed body -/

theorem State.putBody_mem_wf {s : State} (h : s.mem.wf) (nb : List Byte) (ntkl a : Nat) : (s.putBody nb ntkl a).mem.wf :=
  Memory.storeForget_wf (Memory.memWrite_wf h _ _) _

/-- The body committed is the body that reads back. -/
theorem State.putBody_body {s : State} {nb : List Byte} (h : nb.length < 4294967296) (ntkl a : Nat) :
    (s.putBody nb ntkl a).body = nb := by
  have hu : (BitVec.ofNat 32 nb.length).toNat = nb.length := by simp; omega
  unfold State.body State.memRead
  rw [State.putBody_used, State.putBody_maxHdr, hu]
  refine State.readBytes_eq fun i hi => ?_
  rw [State.putBody_mem, Memory.storeForget, Memory.read_dropFrom_below _ (by omega)]
  exact Memory.read_writeBytes_inside _ _ _ hi

/-- A committed body touches no byte below it: INBUF and the header reservation keep theirs. -/
theorem State.putBody_read_below {s : State} (nb : List Byte) (ntkl a : Nat) {x : Nat} (h : x < storeBase + s.maxHdr.toNat) :
    (s.putBody nb ntkl a).mem.read x = s.mem.read x := by
  rw [State.putBody_mem, Memory.storeForget, Memory.read_dropFrom_below _ (by omega)]
  exact Memory.read_writeBytes_outside _ _ _ (.inl h)

/-- Every outcome of CommitBody (R230). -/
theorem State.commitBody_cases (s : State) (nb : List Byte) (ntkl r0 r1 : Nat) :
    (s.limit < nb.length ∧ s.commitBody nb ntkl r0 r1 = s.raise .sizeExceeded) ∨
    (nb.length ≤ s.limit ∧ ∃ d, s.grow nb.length = ⟨none, d⟩ ∧
      s.commitBody nb ntkl r0 r1 = (s.drawn d).raise .allocFailure) ∨
    (nb.length ≤ s.limit ∧ ∃ a d, s.grow nb.length = ⟨some a, d⟩ ∧
      s.commitBody nb ntkl r0 r1 = ((s.drawn d).putBody nb ntkl a).finish r0 r1 0 0) := by
  unfold State.commitBody
  split
  · exact .inl ⟨‹_›, rfl⟩
  · split
    · exact .inr (.inl ⟨by omega, _, ‹_›, rfl⟩)
    · exact .inr (.inr ⟨by omega, _, _, ‹_›, rfl⟩)

/-- What a command over the logical views answers when the stored body decodes (R40). -/
theorem State.withContents_some {s : State} {os : List Opt} {p : List Byte} (h : s.contents = some (os, p))
    (f : List Opt → List Byte → State) : s.withContents f = .next (f os p) := by
  simp [State.withContents, h]

/-- A next state of a command over the logical views comes from a body that decodes. -/
theorem State.withContents_next {s t : State} {f : List Opt → List Byte → State} (h : s.withContents f = .next t) :
    ∃ os p, s.contents = some (os, p) ∧ t = f os p := by
  unfold State.withContents at h
  split at h
  · next os p hc => exact ⟨os, p, hc, by cases h; rfl⟩
  · cases h

end Sys2Proof.Machine
end

