-- ==== Sys2Proof/Laws/PerInstr.lean ====
section
/-! SUPPORT. Statements about every instruction as syntax, one lemma per constructor. -/

namespace Sys2Proof.Laws

/-- The bits spec/opcode_table.json gives each row (the length of its "encoding"). -/
def tableBits : Instr → Nat
  | .wireStreamHeaderS0to12 .. => 16
  | .wireStreamHeaderS13 .. => 24
  | .wireStreamHeaderS15 .. => 48
  | .wireOptionControl .. => 8
  | .wirePayloadMarker => 8
  | _ => 32

namespace EncodeLength

/-- An instruction's encoding has as many bits as its row of the opcode table. -/
def Statement (i : Instr) : Prop := 8 * (encode i).length = tableBits i

theorem nop : Statement .nop := rfl
theorem msgInit (p : Transport) : Statement (.msgInit p) := rfl
theorem clear : Statement .clear := rfl
theorem resize : Statement .resize := rfl
theorem setType : Statement .setType := rfl
theorem setCode : Statement .setCode := rfl
theorem setMid : Statement .setMid := rfl
theorem hdrSize (p : Transport) : Statement (.hdrSize p) := rfl
theorem frameSize (p : Transport) : Statement (.frameSize p) := rfl
theorem parse (p : Transport) : Statement (.parse p) := rfl
theorem encodeHdr : Statement .encodeHdr := rfl
theorem addToken : Statement .addToken := rfl
theorem updateToken : Statement .updateToken := rfl
theorem addOption : Statement .addOption := rfl
theorem insertOption : Statement .insertOption := rfl
theorem updateOption : Statement .updateOption := rfl
theorem removeOption : Statement .removeOption := rfl
theorem iterInit : Statement .iterInit := rfl
theorem iterNext : Statement .iterNext := rfl
theorem addData : Statement .addData := rfl
theorem getData : Statement .getData := rfl
theorem wireDgramHeader (v t : BitVec 2) (k : BitVec 4) (c : Byte) (m : BitVec 16) : Statement (.wireDgramHeader v t k c m) := rfl
theorem wireStreamHeaderS0to12 (s k : BitVec 4) (c : Byte) : Statement (.wireStreamHeaderS0to12 s k c) := rfl
theorem wireStreamHeaderS13 (k : BitVec 4) (e : BitVec 8) (c : Byte) : Statement (.wireStreamHeaderS13 k e c) := rfl
theorem wireStreamHeaderS14 (k : BitVec 4) (e : BitVec 16) (c : Byte) : Statement (.wireStreamHeaderS14 k e c) := rfl
theorem wireStreamHeaderS15 (k : BitVec 4) (e : BitVec 32) (c : Byte) : Statement (.wireStreamHeaderS15 k e c) := rfl
theorem wireOptionControl (d l : BitVec 4) : Statement (.wireOptionControl d l) := rfl
theorem wirePayloadMarker : Statement .wirePayloadMarker := rfl

end EncodeLength

end Sys2Proof.Laws
end

