-- ==== Sys2Proof/Laws/Wire.lean ====
section
/-! SUPPORT. Small laws of the wire formats: nibbles, forms and lengths of encoded entries. -/

namespace Sys2Proof

@[simp] theorem hiNibble_packNibbles (h l : BitVec 4) : hiNibble (packNibbles h l) = h := by
  revert h l; decide

@[simp] theorem loNibble_packNibbles (h l : BitVec 4) : loNibble (packNibbles h l) = l := by
  revert h l; decide

@[simp] theorem packNibbles_nibbles (b : Byte) : packNibbles (hiNibble b) (loNibble b) = b := by
  revert b; decide

/-- The one byte whose nibbles are both 15 is the marker (R108, R109). -/
theorem eq_marker_iff (b : Byte) : b = 0xFF ↔ hiNibble b = 15 ∧ loNibble b = 15 := by
  revert b; decide

end Sys2Proof

namespace Sys2Proof.Machine

/-- Every delta and length an option can have has a form (R182). -/
theorem extEnc_isSome {v : Nat} (h : v ≤ 65804) : (extEnc v).isSome = true := by
  unfold extEnc
  repeat' split
  all_goals rfl

/-- A form's bytes are as many as its nibble calls for (R105). -/
theorem extEnc_length {v : Nat} {f : BitVec 4 × List Byte} (h : extEnc v = some f) : f.2.length = extLen f.1 := by
  unfold extEnc at h
  split at h
  · next hv =>
    cases h
    have : v % 16 = v := Nat.mod_eq_of_lt (by omega)
    simp [extLen, this, hv]
  · split at h
    · cases h; rfl
    · split at h
      · cases h; rfl
      · cases h

/-- An entry is as long as EntryLen says (R183). -/
theorem encodeEntry_length (d : Nat) (v : List Byte) : (encodeEntry d v).length = entryLen d v.length := by
  simp only [encodeEntry, entryLen, List.length_cons, List.length_append]; omega

theorem encodeOptionsFrom_append (prev : Nat) (os os' : List Opt) :
    encodeOptionsFrom prev (os ++ os') =
      encodeOptionsFrom prev os ++ encodeOptionsFrom (match os.getLast? with | some o => o.1 | none => prev) os' := by
  induction os generalizing prev with
  | nil => rfl
  | cons o os ih =>
    obtain ⟨n, v⟩ := o
    simp only [List.cons_append, encodeOptionsFrom, ih n, List.append_assoc, List.getLast?_cons]
    cases os.getLast? <;> rfl

/-- The marker test of the payload view (R43). -/
@[simp] theorem dataPresent_iff (p : List Byte) : dataPresent p = true ↔ p ≠ [] := by simp [dataPresent]

end Sys2Proof.Machine
end

