-- ==== Sys2Proof/Tests/Slice0.lean ====
section
/-! SUPPORT. Tests of the model on values taken from the spec, and witnesses that the statements' hypotheses can be met. -/

namespace Sys2Proof.Tests

open Sys2Proof.Machine Sys2Proof.Spec

/-! ### Helpers -/

/-- The next state, if there is one. -/
def next? : Result → Option State
  | .next t => some t
  | .fault _ => none
  | .refused _ => none

/-- STATUS and RES after a command. -/
def report (r : Result) : Option (Completion × Nat × Nat × Nat × Nat) :=
  (next? r).map fun t => (t.status, t.res0.toNat, t.res1.toNat, t.res2.toNat, t.res3.toNat)

/-- STATUS and the body after a command. -/
def bodyAfter (r : Result) : Option (Completion × List Byte) := (next? r).map fun t => (t.status, t.body)

/-- A message of a class with capacity 64 and the given token length and body. -/
def msg (p : Transport) (tkl : BitVec 4) (b : List Byte) : State :=
  { State.reset with
    proto := p, maxHdr := hdrReserve p, tkl := tkl, used := BitVec.ofNat 32 b.length, alloc := 64,
    mem := Memory.memWrite [] (hdrReserve p).toNat b }

/-- The host has placed operands: ARG0, ARG1 and the first bytes of INBUF. -/
def given (s : State) (a0 a1 : Word) (b : List Byte) : State :=
  { s with arg0 := a0, arg1 := a1, mem := s.mem.writeBytes inbufBase b }

/-- The iterator stands at a store offset. -/
def iterAt (s : State) (pos : Word) (num : BitVec 16) : State := { s with itValid := true, itPos := pos, itNum := num }

/-- A machine with pending host accesses. -/
def pending (s : State) (h : List HostAccess) : State := { s with host := h }

/-! ### Well-formedness: each check refuses an ill-formed term -/

theorem test_wf_datagram_token : Instr.wellFormed (.wireDgramHeader 1 0 9 0 0) = false := by decide
theorem test_wf_stream_literal_token : Instr.wellFormed (.wireStreamHeaderS0to12 0 9 0) = false := by decide
theorem test_wf_stream_literal_selector : Instr.wellFormed (.wireStreamHeaderS0to12 13 0 0) = false := by decide
theorem test_wf_stream_13_token : Instr.wellFormed (.wireStreamHeaderS13 15 0 0) = false := by decide
theorem test_wf_stream_14_token : Instr.wellFormed (.wireStreamHeaderS14 9 0 0) = false := by decide
theorem test_wf_stream_15_token : Instr.wellFormed (.wireStreamHeaderS15 9 0 0) = false := by decide
theorem test_wf_option_delta : Instr.wellFormed (.wireOptionControl 15 0) = false := by decide
theorem test_wf_option_length : Instr.wellFormed (.wireOptionControl 0 15) = false := by decide

/-! ### Decoding: words written out from 30_encoding R120, R121 (commands) and R100 to R102, R107, R108 (wire forms) -/

theorem test_decode_nop : decodeCommand 0x00000000 = .ok .nop := by decide
theorem test_decode_msg_init : decodeCommand 0x00000101 = .ok (.msgInit .stream) := by decide
theorem test_decode_clear : decodeCommand 0x00000002 = .ok .clear := by decide
theorem test_decode_resize : decodeCommand 0x00000003 = .ok .resize := by decide
theorem test_decode_set_type : decodeCommand 0x00000004 = .ok .setType := by decide
theorem test_decode_set_code : decodeCommand 0x00000005 = .ok .setCode := by decide
theorem test_decode_set_mid : decodeCommand 0x00000006 = .ok .setMid := by decide
theorem test_decode_hdr_size : decodeCommand 0x00000110 = .ok (.hdrSize .stream) := by decide
theorem test_decode_frame_size : decodeCommand 0x00000011 = .ok (.frameSize .dgram) := by decide
theorem test_decode_parse : decodeCommand 0x00000112 = .ok (.parse .stream) := by decide
theorem test_decode_encode_hdr : decodeCommand 0x00000013 = .ok .encodeHdr := by decide
theorem test_decode_add_token : decodeCommand 0x00000020 = .ok .addToken := by decide
theorem test_decode_update_token : decodeCommand 0x00000021 = .ok .updateToken := by decide
theorem test_decode_add_option : decodeCommand 0x00000030 = .ok .addOption := by decide
theorem test_decode_insert_option : decodeCommand 0x00000031 = .ok .insertOption := by decide
theorem test_decode_update_option : decodeCommand 0x00000032 = .ok .updateOption := by decide
theorem test_decode_remove_option : decodeCommand 0x00000033 = .ok .removeOption := by decide
theorem test_decode_iter_init : decodeCommand 0x00000034 = .ok .iterInit := by decide
theorem test_decode_iter_next : decodeCommand 0x00000035 = .ok .iterNext := by decide
theorem test_decode_add_data : decodeCommand 0x00000040 = .ok .addData := by decide
theorem test_decode_get_data : decodeCommand 0x00000041 = .ok .getData := by decide

/-- V-CMD: unassigned opcodes, reserved bits, and P on commands without it. -/
theorem test_decode_illegal :
    decodeCommand 0x00000007 = .error .unassignedOpcode ∧ decodeCommand 0x000000FF = .error .unassignedOpcode ∧
      decodeCommand 0x00000200 = .error .reservedBits ∧ decodeCommand 0x80000000 = .error .reservedBits ∧
      decodeCommand 0x00000100 = .error .transportBitReserved ∧ decodeCommand 0x00000113 = .error .transportBitReserved := by
  decide

/-- 01 00 0100, then code and message id. -/
theorem test_decode_datagram_header :
    decode .datagramHead [0x44, 0x01, 0x12, 0x34] = .ok (.wireDgramHeader 1 0 4 0x01 0x1234, []) := by decide
/-- 0110 0100: selector 6, token length 4. -/
theorem test_decode_stream_literal : decode .streamHead [0x64, 0x01] = .ok (.wireStreamHeaderS0to12 6 4 0x01, []) := by decide
/-- 1101 0010: selector 13, token length 2. -/
theorem test_decode_stream_13 : decode .streamHead [0xD2, 0x05, 0x45] = .ok (.wireStreamHeaderS13 2 0x05 0x45, []) := by decide
/-- 1110 0001: selector 14, token length 1; the extension is big-endian. -/
theorem test_decode_stream_14 :
    decode .streamHead [0xE1, 0x01, 0x02, 0x45] = .ok (.wireStreamHeaderS14 1 0x0102 0x45, []) := by decide
/-- 1111 0010: selector 15, token length 2; the extension is big-endian. -/
theorem test_decode_stream_15 :
    decode .streamHead [0xF2, 0x01, 0x02, 0x03, 0x04, 0x45] = .ok (.wireStreamHeaderS15 2 0x01020304 0x45, []) := by decide
/-- 1011 0010: delta nibble 11, length nibble 2. -/
theorem test_decode_option_control : decode .optionPosition [0xB2, 0x68] = .ok (.wireOptionControl 11 2, [0x68]) := by decide
theorem test_decode_payload_marker : decode .optionPosition [0xFF] = .ok (.wirePayloadMarker, []) := by decide
/-- R109, R112: reserved forms. -/
theorem test_decode_reserved :
    decode .optionPosition [0xF0] = .error .reservedNibble ∧ decode .optionPosition [0x0F] = .error .reservedNibble ∧
      decode .streamHead [0x09, 0x01] = .error .tokenLength ∧ decode .datagramHead [0x4A, 1, 2, 3] = .error .tokenLength := by
  decide

/-- V-EXT: the extension scheme at the ends of its classes. -/
theorem test_extension_forms :
    extEnc 12 = some (12, []) ∧ extEnc 13 = some (13, [0x00]) ∧ extEnc 268 = some (13, [0xFF]) ∧
      extEnc 269 = some (14, [0x00, 0x00]) ∧ extEnc 65535 = some (14, [0xFE, 0xF2]) ∧ extEnc 65804 = some (14, [0xFF, 0xFF]) ∧
      extEnc 65805 = none ∧ extEncHdr 65805 = some (15, [0, 0, 0, 0]) ∧
      extEncHdr 4295033100 = some (15, [0xFF, 0xFF, 0xFF, 0xFF]) ∧ extEncHdr 4295033101 = none := by decide

/-! ### Commands: the vectors of 95_test_vectors.md and the example lines of the rules -/

theorem test_nop : report (exec .nop (given State.reset 7 7 [])) = some (.ok, 0, 0, 0, 0) := by decide
/-- V-MGR: a hint of 0 asks for nothing. -/
theorem test_msg_init_empty : report (exec (.msgInit .dgram) (given (msg .stream 1 [0x07]) 0 9 [])) = some (.ok, 0, 0, 0, 0) := by
  decide
/-- V-MGR: a capacity above P_STORE_BYTES. -/
theorem test_msg_init_above_store :
    report (exec (.msgInit .dgram) (given State.reset 1048577 0 [])) = some (.allocFailure, 0, 0, 0, 0) := by decide
/-- V-MGR: ALLOC 64, CLEAR 8. -/
theorem test_clear :
    (next? (exec .clear (given (msg .dgram 1 [0x07]) 8 0 []))).map (fun t => (t.maxSize, t.alloc, t.used)) = some (8, 64, 0) := by
  decide
/-- V-MGR: RESIZE below ALLOC. -/
theorem test_resize_below : report (exec .resize (given (msg .dgram 0 []) 5 0 [])) = some (.ok, 64, 0, 0, 0) := by decide
/-- V-MGR: RESIZE above Limit. -/
theorem test_resize_above_limit :
    report (exec .resize { given (msg .dgram 0 []) 65 0 [] with maxSize := 64 }) = some (.sizeExceeded, 0, 0, 0, 0) := by decide
theorem test_set_type : (next? (exec .setType (given (msg .dgram 0 []) 1 0 []))).map State.msgType = some 1 := by decide
theorem test_set_type_range : report (exec .setType (given (msg .dgram 0 []) 4 0 [])) = some (.badArgument, 0, 0, 0, 0) := by
  decide
theorem test_set_code :
    (next? (exec .setCode (given (msg .dgram 0 []) 0x45 0 []))).map (fun t => (t.msgCode, codeClass t.msgCode)) =
      some (0x45, 2) := by decide
theorem test_code_classes : [0x00, 0x01, 0x1F, 0x20, 0x3F, 0x40, 0xDF, 0xE0].map codeClass = [0, 1, 1, 4, 4, 2, 2, 3] := by decide
theorem test_set_mid : (next? (exec .setMid (given (msg .dgram 0 []) 0x1234 0 []))).map State.msgId = some 0x1234 := by decide
/-- V-MGR: on STREAM the write is 0. -/
theorem test_set_mid_stream : (next? (exec .setMid (given (msg .stream 0 []) 77 0 []))).map State.msgId = some 0 := by decide
theorem test_hdr_size : report (exec (.hdrSize .stream) (given State.reset 0 0 [0xE3])) = some (.ok, 4, 0, 0, 0) := by decide
theorem test_hdr_size_largest : report (exec (.hdrSize .stream) (given State.reset 0 0 [0xF0])) = some (.ok, 6, 0, 0, 0) := by decide
theorem test_frame_size :
    report (exec (.frameSize .stream) (given State.reset 3 0 [0xE0, 0x01, 0x02])) = some (.ok, 4, 527, 531, 0) := by decide
theorem test_frame_size_short :
    report (exec (.frameSize .dgram) (given State.reset 3 0 [0x44, 0x01, 0x02])) = some (.malformedHeader, 0, 0, 0, 0) := by decide
/-- V-PARSE, first row. -/
theorem test_parse :
    report (exec (.parse .dgram) (given (msg .dgram 0 []) 14 0
      [0x44, 0x01, 0x12, 0x34, 0xAA, 0xBB, 0xCC, 0xDD, 0xB2, 0x68, 0x69, 0x10, 0xFF, 0x58])) = some (.ok, 14, 10, 2, 1) := by decide
/-- V-PARSE: number 65536. -/
theorem test_parse_option_number :
    report (exec (.parse .dgram) (given (msg .dgram 0 []) 7 0 [0x40, 0x01, 0x00, 0x00, 0xE0, 0xFE, 0xF3])) =
      some (.malformedOption, 0, 0, 0, 0) := by decide
/-- V-HDR: the bytes of the header and token. -/
theorem test_encode_hdr_datagram :
    (next? (exec .encodeHdr { msg .dgram 2 [0x01, 0x02] with msgType := 1, msgCode := 0x45, msgId := 0xBEEF })).map
      (fun t => t.memRead 0 6) = some [0x52, 0x45, 0xBE, 0xEF, 0x01, 0x02] := by decide
/-- V-HDR: content length 13. -/
theorem test_encode_hdr_stream :
    report (exec .encodeHdr (msg .stream 2 ([0x01, 0x02, 0xBC] ++ List.replicate 12 0x61))) = some (.ok, 3, 3, 18, 0) := by decide
theorem test_add_token :
    bodyAfter (exec .addToken (given (msg .dgram 0 []) 2 0 [0x01, 0x02])) = some (.ok, [0x01, 0x02]) := by decide
theorem test_add_token_again :
    bodyAfter (exec .addToken (given (msg .dgram 2 [0x01, 0x02]) 1 0 [0x07])) = some (.invalidOrder, [0x01, 0x02]) := by decide
theorem test_update_token :
    bodyAfter (exec .updateToken (given (msg .dgram 4 [0xAA, 0xBB, 0xCC, 0xDD, 0xB2, 0x68, 0x69]) 1 0 [0x01])) =
      some (.ok, [0x01, 0xB2, 0x68, 0x69]) := by decide
theorem test_add_option :
    bodyAfter (exec .addOption (given (msg .dgram 2 [0x01, 0x02]) 4 1 [0x61])) = some (.ok, [0x01, 0x02, 0x41, 0x61]) := by decide
/-- V5: an option after the payload. -/
theorem test_add_option_after_payload :
    bodyAfter (exec .addOption (given (msg .stream 4 [0xAA, 0xBB, 0xCC, 0xDD, 0xC0, 0xFF, 0x58]) 11 2 [0x68, 0x69])) =
      some (.invalidOrder, [0xAA, 0xBB, 0xCC, 0xDD, 0xC0, 0xFF, 0x58]) := by decide
/-- V2, step 4: after the equal number, and before a greater one whose delta changes. -/
theorem test_insert_option :
    bodyAfter (exec .insertOption (given (msg .dgram 0 [0x31, 0x61, 0x90, 0xD0, 0x23]) 3 1 [0x62])) =
      some (.ok, [0x31, 0x61, 0x01, 0x62, 0x90, 0xD0, 0x23]) := by decide
/-- V-OPT: a shrinking extension after the new entry. -/
theorem test_insert_option_refold :
    bodyAfter (exec .insertOption (given (msg .dgram 0 [0xE0, 0x00, 0x1F]) 290 0 [])) = some (.ok, [0xE0, 0x00, 0x15, 0xA0]) := by
  decide
theorem test_update_option :
    bodyAfter (exec .updateOption (given (msg .dgram 0 [0x51, 0x78, 0x01, 0x79]) 5 2 [0x7A, 0x7A])) =
      some (.ok, [0x52, 0x7A, 0x7A, 0x01, 0x79]) := by decide
theorem test_update_option_absent :
    bodyAfter (exec .updateOption (given (msg .dgram 0 [0x51, 0x78]) 9 0 [])) = some (.ok, [0x51, 0x78, 0x40]) := by decide
theorem test_remove_option :
    bodyAfter (exec .removeOption (given (msg .dgram 0 [0xC0, 0xD0, 0xFF]) 12 0 [])) = some (.ok, [0xE0, 0x00, 0x0B]) := by decide
theorem test_remove_option_first_of_two :
    bodyAfter (exec .removeOption (given (msg .dgram 0 [0x31, 0x61, 0x01, 0x62]) 3 0 [])) = some (.ok, [0x31, 0x62]) := by decide
theorem test_iter_init :
    (next? (exec .iterInit (msg .dgram 4 [0xAA, 0xBB, 0xCC, 0xDD]))).map (fun t => (t.itValid, t.itPos, t.itNum)) =
      some (true, 8, 0) := by decide
theorem test_iter_next :
    report (exec .iterNext (iterAt (msg .dgram 0 [0x41, 0x61, 0x51, 0x62, 0xFF, 0x58, 0x59]) 6 4)) = some (.ok, 9, 7, 1, 1) := by
  decide
theorem test_iter_next_end :
    report (exec .iterNext (iterAt (msg .dgram 0 [0x41, 0x61, 0x51, 0x62, 0xFF, 0x58, 0x59]) 8 9)) = some (.ok, 0, 0, 0, 0) := by
  decide
theorem test_add_data :
    bodyAfter (exec .addData (given (msg .dgram 0 [0x41, 0x61]) 2 0 [0x58, 0x59])) = some (.ok, [0x41, 0x61, 0xFF, 0x58, 0x59]) := by
  decide
theorem test_add_data_again :
    report (exec .addData (given (msg .dgram 0 [0x41, 0x61, 0xFF, 0x58, 0x59]) 0 0 [])) = some (.invalidOrder, 0, 0, 0, 0) := by decide
theorem test_get_data : report (exec .getData (msg .dgram 0 [0xFF, 0x58])) = some (.ok, 5, 1, 0, 1) := by decide
theorem test_get_data_none : report (exec .getData (msg .dgram 0 [0x41, 0x61])) = some (.ok, 0, 0, 0, 0) := by decide

/-! The wire rows, by the header rows of V4 and V-HDR and by V-ITER. -/

theorem test_wire_datagram_header : report (exec (.wireDgramHeader 1 0 4 0x01 0x0203) State.reset) = some (.ok, 4, 0, 4, 4) := by
  decide
theorem test_wire_stream_literal : report (exec (.wireStreamHeaderS0to12 12 0 0x01) State.reset) = some (.ok, 2, 12, 14, 0) := by
  decide
theorem test_wire_stream_13 : report (exec (.wireStreamHeaderS13 0 0xFF 0x01) State.reset) = some (.ok, 3, 268, 271, 0) := by decide
theorem test_wire_stream_14 :
    report (exec (.wireStreamHeaderS14 0 0xFFFF 0x01) State.reset) = some (.ok, 4, 65804, 65808, 0) := by decide
theorem test_wire_stream_15 :
    report (exec (.wireStreamHeaderS15 0 0x00000000 0x01) State.reset) = some (.ok, 6, 65805, 65811, 0) := by decide
theorem test_wire_option_control :
    report (exec (.wireOptionControl 11 2) (iterAt (msg .dgram 4 [0xAA, 0xBB, 0xCC, 0xDD, 0xB2, 0x68, 0x69]) 8 0)) =
      some (.ok, 11, 9, 2, 1) := by decide
theorem test_wire_payload_marker :
    report (exec .wirePayloadMarker (iterAt (msg .dgram 0 [0xFF, 0x58]) 4 0)) = some (.ok, 0, 0, 0, 0) := by decide

/-! ### The host's accesses (20_memory R70 to R72, R77; 10_state R21) -/

/-- MSG_HDR of a message with TYPE 1, TKL 4, CODE 0x45 and MID 0x1234. -/
theorem test_read_msg_hdr :
    (next? (step (pending { msg .dgram 4 [1, 2, 3, 4] with msgType := 1, msgCode := 0x45, msgId := 0x1234 }
      [.read .word 0x024]))).map State.rdata = some 0x12344541 := by decide
/-- MSG_CTRL of a STREAM message with a payload: PROTO, MAX_HDR 6, DATA_PRESENT. -/
theorem test_read_msg_ctrl :
    (next? (step (pending (msg .stream 0 [0xFF, 0x58]) [.read .word 0x020]))).map State.rdata = some 0x20D := by decide
/-- STATUS of each code (R270). -/
theorem test_read_status :
    ([.ok, .malformedHeader, .sizeExceeded, .allocFailure, .invalidOrder, .duplicateExchange, .notARequest, .malformedOption,
        .badArgument, .notFound, .iterInvalid, .illegalCommand, .headerSpace] : List Completion).map (fun c =>
          (next? (step (pending { State.reset with status := c } [.read .word 0x00C]))).map State.rdata) =
      (List.range 13).map (fun n => some (BitVec.ofNat 32 n)) := by decide
theorem test_illegal_command :
    (next? (step (pending State.reset [.write .word 0 0x107]))).map (fun t => (t.status, t.cmd)) = some (.illegalCommand, 0x107) := by
  decide
theorem test_byte_access_refused : step (pending State.reset [.read .byte 0x00C]) = .refused .accessSize := rfl
theorem test_store_read :
    (next? (step (pending (msg .dgram 0 [0x41, 0x61]) [.read .byte 0x80000005]))).map State.rdata = some 0x61 := by decide

/-! ### The opcode table's numbering -/

theorem test_table_words :
    decodeTableWord 32 0x00000035 = some .iterNext ∧ decodeTableWord 32 0x44011234 = some (.wireDgramHeader 1 0 4 0x01 0x1234) ∧
      decodeTableWord 24 0xD20045 = some (.wireStreamHeaderS13 2 0x00 0x45) ∧
      decodeTableWord 48 0xF20102030445 = some (.wireStreamHeaderS15 2 0x01020304 0x45) ∧
      decodeTableWord 8 0xFF = some .wirePayloadMarker := by decide
/-- A placed command and a placed wire row run at the next step. -/
theorem test_fetch_word :
    ((next? (step (State.reset.withFetchWord 32 0x00000035))).map State.status = some .iterInvalid) ∧
      (next? (step (State.reset.withFetchWord 8 0xB2))).map (fun t => (t.status, t.res0, t.res3)) = some (.ok, 11, 1) := by decide

/-! ### Witnesses: states and operands that meet the hypotheses of the statements, each clause at a boundary of its range -/

/-- A DGRAM message with a committed header and a running iterator: token AA BB CC DD, option (11, "hi"), payload "X". -/
def sample : State :=
  { iterAt (msg .dgram 4 [0xAA, 0xBB, 0xCC, 0xDD, 0xB2, 0x68, 0x69, 0xFF, 0x58]) 8 0 with
    hdrSize := 4, hdrValid := true, msgType := 1, msgCode := 0x01, msgId := 0x1234,
    mem := Memory.memWrite [] 0 [0x54, 0x01, 0x12, 0x34, 0xAA, 0xBB, 0xCC, 0xDD, 0xB2, 0x68, 0x69, 0xFF, 0x58] }

/-- A STREAM message without a payload. -/
def bare : State := msg .stream 1 [0x07, 0x31, 0x61, 0x90]

theorem sample_contents : sample.contents = some ([(11, [0x68, 0x69])], [0x58]) := by decide

theorem bare_contents : bare.contents = some ([(3, [0x61]), (12, [])], []) := by decide

theorem sample_inv : sample.Inv where
  cfg_wf := by decide
  mem_wf := by decide
  reserve := by decide
  stream_zero := by decide
  hdr_size := by decide
  token_le := by decide
  token_used := by decide
  used_alloc := by decide
  alloc_store := by decide
  used_limit := by decide
  body_held := by decide
  body_ok := ⟨_, _, sample_contents, by decide, by decide, by decide⟩

theorem bare_inv : bare.Inv where
  cfg_wf := by decide
  mem_wf := by decide
  reserve := by decide
  stream_zero := by decide
  hdr_size := by decide
  token_le := by decide
  token_used := by decide
  used_alloc := by decide
  alloc_store := by decide
  used_limit := by decide
  body_held := by decide
  body_ok := ⟨_, _, bare_contents, by decide, by decide, by decide⟩

theorem sample_header_matches : sample.HeaderMatches := fun _ => ⟨_, rfl, by decide⟩

/-- The sample with operands; the invariant does not speak of them. -/
theorem sample_inv_given (a0 a1 : Word) : ({ sample with arg0 := a0, arg1 := a1 } : State).Inv where
  cfg_wf := sample_inv.cfg_wf
  mem_wf := sample_inv.mem_wf
  reserve := sample_inv.reserve
  stream_zero := sample_inv.stream_zero
  hdr_size := sample_inv.hdr_size
  token_le := sample_inv.token_le
  token_used := sample_inv.token_used
  used_alloc := sample_inv.used_alloc
  alloc_store := sample_inv.alloc_store
  used_limit := sample_inv.used_limit
  body_held := sample_inv.body_held
  body_ok := sample_inv.body_ok

theorem witness_DecodeInvertsEncode :
    Instr.wellFormed (.wireOptionControl 14 14) = true ∧ Instr.wellFormed (.wireStreamHeaderS0to12 12 8 0xFF) = true ∧
      Instr.wellFormed (.wireStreamHeaderS15 8 0xFFFFFFFF 0) = true := by decide

theorem witness_DecodedBytesAreTheEncoding :
    decode .optionPosition [0xEE, 0x00] = .ok (.wireOptionControl 14 14, [0x00]) ∧
      decode .command [0x00, 0x00, 0x01, 0x12] = .ok (.parse .stream, []) := by decide

theorem witness_CommandWordRunsOrIsIllegal :
    (pending State.reset [.write .word 0 0x112]).host = .write .word 0 0x112 :: [] ∧
      (∃ e ∈ opcodeMap, (0x112 : Word).extractLsb' 9 23 = 0 ∧ ((0x112 : Word).extractLsb' 0 8).toNat = e.1 ∧ e.2.1 = true) ∧
      (∃ e ∈ opcodeMap, ((0x041 : Word).extractLsb' 0 8).toNat = e.1 ∧ (0x041 : Word).getLsbD 8 = false) ∧
      (0x200 : Word).extractLsb' 9 23 ≠ 0 ∧ (∀ e ∈ opcodeMap, ((0x007 : Word).extractLsb' 0 8).toNat ≠ e.1) ∧
      (0x100 : Word).getLsbD 8 = true ∧ ∃ e ∈ opcodeMap, ((0x100 : Word).extractLsb' 0 8).toNat = e.1 ∧ e.2.1 = false := by
  decide

theorem witness_StepRunsTheDecodedInstruction :
    (pending State.reset [.write .word 0 0x35]).host = .write .word 0 0x35 :: [] ∧ decodeCommand 0x35 = .ok .iterNext ∧
      State.reset.host = [] := by decide

theorem witness_FrameSizeRunsTheHeaderRows :
    let s := given State.reset 4 0 [0x44, 0x01, 0x12, 0x34]
    let i := Instr.wireDgramHeader 1 0 4 0x01 0x1234
    i.place = .datagramHead ∧ s.arg0.toNat = (encode i).length ∧ (encode i).length ≤ s.cfg.inbufBytes.toNat ∧
      s.inRead 0 (encode i).length = encode i := by decide

theorem witness_FrameSizeRunsTheHeaderRows_stream :
    let s := given State.reset 6 0 [0xF8, 0x01, 0x02, 0x03, 0x04, 0x45]
    let i := Instr.wireStreamHeaderS15 8 0x01020304 0x45
    i.place = .streamHead ∧ s.arg0.toNat = (encode i).length ∧ (encode i).length ≤ s.cfg.inbufBytes.toNat ∧
      s.inRead 0 (encode i).length = encode i := by decide

theorem witness_IterNextRunsTheElementRows :
    let i := Instr.wireOptionControl 11 2
    i.place = .optionPosition ∧ i.wellFormed = true ∧ sample.itPos.toNat < sample.maxHdr.toNat + sample.used.toNat ∧
      encode i = [sample.storeByte sample.itPos.toNat] := by decide

theorem witness_ExtensionFormsAreUnique :
    extEnc 65804 = some (14, [0xFF, 0xFF]) ∧ extEncHdr 4295033100 = some (15, [0xFF, 0xFF, 0xFF, 0xFF]) ∧
      (14 : BitVec 4) ≠ 15 ∧ [0xFF, 0xFF].length = extLen 14 ∧ [0xFF, 0xFF, 0xFF, 0xFF].length = extLen 15 := by decide

theorem witness_HeaderRoundTrip :
    (8 : BitVec 4).toNat ≤ 8 ∧ hdrEncode .stream 0 8 0x45 0 13 = .ok [0xD8, 0x00, 0x45] ∧
      (List.replicate 21 (0 : Byte)).length = (8 : BitVec 4).toNat + 13 ∧
      ([0xD8, 0x00, 0x45] ++ List.replicate 21 (0 : Byte)).length ≤ 24 := by decide

theorem witness_OptionsRoundTrip :
    optsOk [(3, [0x61]), (3, []), (65535, [])] ∧
      decodeOptions [0x31, 0x61, 0x90, 0xFF, 0x58] = some ([(3, [0x61]), (12, [])], [0x58]) := by decide

theorem witness_EntryLength : (65535 : Nat) ≤ 65535 ∧ (268 : Nat) ≤ 65535 ∧ (12 : Nat) ≤ 65535 := by decide

theorem witness_RemovingNeverLengthens : optsOk [(12, []), (280, [])] ∧ 0 < [(12, ([] : List Byte)), (280, [])].length := by decide

theorem witness_InsertPosition :
    optsOk [(3, []), (3, []), (12, [])] ∧ (65535 : Nat) ≤ 65535 ∧ ([0x62] : List Byte).length ≤ 65535 ∧
      [(3, ([] : List Byte)), (12, [])][insertPos [(3, []), (12, [])] 3]? = some (12, []) := by decide

theorem witness_EveryStepKeepsTheInvariant : ∃ t, sample.Inv ∧ step sample = .next t := ⟨_, sample_inv, rfl⟩

theorem witness_EveryStepKeepsTheInvariant_command :
    ∃ t, (pending bare [.write .word 0 0x33]).Inv ∧ step (pending bare [.write .word 0 0x33]) = .next t :=
  ⟨_, ⟨bare_inv.1, bare_inv.2, bare_inv.3, bare_inv.4, bare_inv.5, bare_inv.6, bare_inv.7, bare_inv.8, bare_inv.9, bare_inv.10,
    bare_inv.11, bare_inv.12⟩, rfl⟩

theorem witness_ResetMeetsTheInvariant : Config.params.wf ∧ Params.wf ⟨1, 4294967289, 1073741824, false⟩ := by decide

theorem witness_NoStepFaults : sample.Inv := sample_inv

theorem witness_CommittedHeaderKeepsMatching :
    ∃ t, sample.Inv ∧ sample.HeaderMatches ∧ sample.hdrValid = true ∧ step sample = .next t :=
  ⟨_, sample_inv, sample_header_matches, rfl, rfl⟩

theorem witness_FailureChangesNothing :
    ∃ t, exec .setType { sample with arg0 := 4 } = .next t ∧ t.status ≠ .ok := ⟨_, rfl, by decide⟩

theorem witness_StatusCodesOfEachCommand :
    ∃ t, ({ sample with arg0 := 4, arg1 := 0 } : State).Inv ∧ exec .removeOption { sample with arg0 := 4, arg1 := 0 } = .next t ∧
      t.status = .notFound :=
  ⟨_, sample_inv_given 4 0, rfl, by decide⟩

theorem witness_OperandsOutOfRange :
    3 < (4 : Word).toNat ∧ 255 < (256 : Word).toNat ∧ 65535 < (65536 : Word).toNat ∧ 8 < (9 : Word).toNat ∧
      sample.cfg.inbufBytes.toNat < (131073 : Word).toNat := by decide

theorem witness_AccessSizes :
    HostAccess.read .word 0xFFD = .read .word 0xFFD ∨ HostAccess.read .word 0xFFD = .write .word 0xFFD 0 := .inl rfl

theorem witness_AccessSizes_clauses :
    ((0xFFD : Word).toNat < 0x1000 ∧ ¬(AccessSize.word = .word ∧ (0xFFD : Word).toNat % 4 = 0)) ∧
      (0x40000000 ≤ (0x40000000 : Word).toNat ∧ AccessSize.half ≠ .byte) ∧
      ((0xFFC : Word).toNat < 0x1000 ∧ AccessSize.word = .word ∧ (0xFFC : Word).toNat % 4 = 0) ∧
      0x40000000 ≤ (0xFFFFFFFF : Word).toNat ∧
      (pending sample [.read .word 0xFFD]).host = .read .word 0xFFD :: [] := by decide

theorem witness_RegisterReads :
    let s := pending sample [.read .word 0x050]
    s.host = .read .word 0x050 :: [] ∧ (0x050 : Word).toNat < 0x1000 ∧ (0x050 : Word).toNat % 4 = 0 ∧
      s.contents = some ([(11, [0x68, 0x69])], [0x58]) ∧ ((0x050 : Word).toNat, 1) ∈ registerMap s [0x58] := by decide

theorem witness_RegisterReads_status :
    let s := pending { sample with status := .headerSpace } [.read .word 0x00C]
    s.host = .read .word 0x00C :: [] ∧ (0x00C : Word).toNat < 0x1000 ∧ (0x00C : Word).toNat % 4 = 0 ∧
      s.contents = some ([(11, [0x68, 0x69])], [0x58]) ∧ ((0x00C : Word).toNat, 12) ∈ registerMap s [0x58] := by decide

theorem witness_RegisterReads_unmapped :
    (0xFFC : Word).toNat < 0x1000 ∧ (0xFFC : Word).toNat % 4 = 0 ∧
      ∀ v, ((0xFFC : Word).toNat, v) ∉ registerMap (pending sample [.read .word 0xFFC]) [0x58] := by
  refine ⟨by decide, by decide, fun v h => ?_⟩
  have hk : ∀ e ∈ registerMap (pending sample [.read .word 0xFFC]) [0x58], e.1 ≠ 0xFFC := by decide
  exact hk _ h rfl

theorem witness_HostWrites :
    (pending sample [.write .word 4 7]).host = .write .word 4 7 :: [] ∧
      (pending sample [.write .word 12 7]).host = .write .word 12 7 :: [] ∧ 12 ≤ (12 : Word).toNat ∧ (12 : Word).toNat % 4 = 0 ∧
      12 ≤ (0xFFC : Word).toNat ∧ (0xFFC : Word).toNat < 0x1000 ∧ (0xFFC : Word).toNat % 4 = 0 := by decide

theorem witness_StoreWindow :
    (0x80000004 : Word).toNat = 0x80000000 + 4 ∧ (pending sample [.read .byte 0x80000004]).host = .read .byte 0x80000004 :: [] ∧
      (sample.maxHdr.toNat ≤ 4 ∧ 4 < sample.maxHdr.toNat + sample.used.toNat) ∧
      (sample.hdrValid = true ∧ sample.maxHdr.toNat - sample.hdrSize.toNat ≤ 0 ∧ 0 < sample.maxHdr.toNat) ∧
      (pending sample [.write .byte 0xFFFFFFFF 0]).host = .write .byte 0xFFFFFFFF 0 :: [] := by decide

/-- The first store byte after the body is unspecified, and the first after ALLOC reads 0. -/
theorem witness_StoreWindow_unspecified :
    ¬StoreByteSpecified sample 13 ∧ 13 < sample.maxHdr.toNat + sample.alloc.toNat ∧ ¬StoreByteSpecified sample 68 ∧
      sample.maxHdr.toNat + sample.alloc.toNat ≤ 68 := by
  unfold StoreByteSpecified; decide

theorem witness_InbufWindow :
    (0x4001FFFF : Word).toNat = 0x40000000 + 131071 ∧ 131071 < 0x40000000 ∧ 131071 < sample.cfg.inbufBytes.toNat ∧
      (0x40020000 : Word).toNat = 0x40000000 + 131072 ∧ sample.cfg.inbufBytes.toNat ≤ 131072 ∧
      (pending sample [.read .byte 0x4001FFFF]).host = .read .byte 0x4001FFFF :: [] ∧
      (pending sample [.write .byte 0x40020000 1]).host = .write .byte 0x40020000 1 :: [] := by decide

theorem witness_OutsideTheWindows :
    0x1000 ≤ (0x1000 : Word).toNat ∧ (0x3FFFFFFF : Word).toNat < 0x40000000 ∧
      (pending sample [.read .byte 0x1000]).host = .read .byte 0x1000 :: [] ∧
      (pending sample [.write .byte 0x3FFFFFFF 1]).host = .write .byte 0x3FFFFFFF 1 :: [] := by decide

theorem witness_ReadsAreIdempotent :
    ∃ t, (pending sample [.read .byte 0x80000004, .read .byte 0x80000004]).host =
        .read .byte 0x80000004 :: .read .byte 0x80000004 :: [] ∧
      step (pending sample [.read .byte 0x80000004, .read .byte 0x80000004]) = .next t ∧ StoreByteSpecified sample 4 :=
  ⟨_, rfl, rfl, by unfold StoreByteSpecified; decide⟩

theorem witness_ResetEvent : (pending sample [.reset]).host = .reset :: [] := rfl

theorem witness_MsgInitConstructsAnEmptyMessage :
    min (0 : Word).toNat (9 : Word).toNat = 0 ∧ sample.cfg.storeBytes.toNat < (1048577 : Word).toNat ∧
      0 < (1 : Word).toNat ∧ (1048576 : Word).toNat ≤ sample.cfg.storeBytes.toNat := by decide

theorem witness_ResizeGrowsTheCapacity :
    (64 : Word).toNat ≤ sample.alloc.toNat ∧ sample.alloc.toNat < (65 : Word).toNat ∧ ceiling sample < (1048577 : Word).toNat ∧
      (1048576 : Word).toNat ≤ ceiling sample ∧ (1048576 : Word).toNat ≤ sample.cfg.storeBytes.toNat ∧
      ceiling { sample with maxSize := 2000000 } = 2000000 ∧ sample.cfg.storeBytes.toNat < (2000000 : Word).toNat := by decide

theorem witness_TokenCommandsCommitTheToken :
    ¬(8 < (8 : Word).toNat ∨ sample.cfg.inbufBytes.toNat < (8 : Word).toNat) ∧ sample.used ≠ 0 ∧ State.reset.used = 0 := by decide

theorem witness_ParseStoresTheFrame :
    let s := given sample 6 0 [0x11, 0x45, 0x99, 0x70, 0xEE, 0xEE]
    s.arg0.toNat ≤ s.cfg.inbufBytes.toNat ∧ (∃ h, hdrDecode s.cfg.maxRecv.toNat s.cfg.checkVersion .stream (s.inRead 0 6) = .ok h ∧
      ¬6 < h.total ∧ h.tkl = 1) ∧ decodeOptions [0x70] = some ([(7, [])], []) :=
  ⟨by decide, ⟨_, rfl, by decide⟩, by decide⟩

theorem witness_ParseStoresTheFrame_failures :
    let s := given sample 1 0 [0x09]
    s.cfg.inbufBytes.toNat < (131073 : Word).toNat ∧
      hdrDecode s.cfg.maxRecv.toNat s.cfg.checkVersion .stream (s.inRead 0 1) = .error .malformedHeader ∧
      (hdrDecode s.cfg.maxRecv.toNat true .stream [0x10, 0x01]).toOption.map (fun h => decide (2 < h.total)) = some true ∧
      decodeOptions [0xF0] = none := by decide

theorem witness_EncodeHdrWritesTheHeader :
    sample.maxHdr.toNat = reserve sample.proto ∧ (headerBytes sample).length ≤ sample.maxHdr.toNat ∧
      State.maxHdr { bare with maxHdr := 1 } < BitVec.ofNat 3 (headerBytes { bare with maxHdr := 1 }).length := by decide

theorem witness_EncodedFrameIsTheWholeMessage : ∃ t, sample.Inv ∧ exec .encodeHdr sample = .next t := ⟨_, sample_inv, rfl⟩

/-- Another block's state that holds the sample's frame in INBUF. -/
def receiver : State :=
  given { State.reset with alloc := 9 } 13 0
    [0x54, 0x01, 0x12, 0x34, 0xAA, 0xBB, 0xCC, 0xDD, 0xB2, 0x68, 0x69, 0xFF, 0x58]

/-- The sample after ENCODE_HDR. -/
def encoded : State := (next? (exec .encodeHdr sample)).getD sample

theorem witness_FrameRoundTrip :
    sample.Inv ∧ exec .encodeHdr sample = .next encoded ∧ receiver.cfg = sample.cfg ∧
      receiver.arg0.toNat = encoded.frame.length ∧ encoded.frame.length ≤ sample.cfg.inbufBytes.toNat ∧
      encoded.frame.length ≤ sample.cfg.maxRecv.toNat ∧
      (∀ i (h : i < encoded.frame.length), receiver.mem.read (inbufBase + i) = some encoded.frame[i]) ∧
      sample.used.toNat ≤ ceiling receiver ∧ sample.used.toNat ≤ receiver.alloc.toNat :=
  ⟨sample_inv, rfl, by decide, by decide, by decide, by decide, by decide, by decide, by decide⟩

theorem witness_WireHeaderRowsReport : (12 : BitVec 4).toNat ≤ 12 ∧ ¬8 < (8 : BitVec 4).toNat ∧ 8 < (9 : BitVec 4).toNat := by decide

theorem witness_InsertOptionCommits :
    bare.contents = some ([(3, [0x61]), (12, [])], []) ∧
      ¬(65535 < (65535 : Word).toNat ∨ 65535 < (65535 : Word).toNat ∨ bare.cfg.inbufBytes.toNat < (65535 : Word).toNat) := by decide

theorem witness_AddOptionCommitsBeforeAPayload :
    sample.contents = some ([(11, [0x68, 0x69])], [0x58]) ∧ ([0x58] : List Byte) ≠ [] ∧
      bare.contents = some ([(3, [0x61]), (12, [])], []) := by decide

theorem witness_UpdateOptionReplacesTheFirstMatch :
    bare.contents = some ([(3, [0x61]), (12, [])], []) ∧
      [(3, ([0x61] : List Byte)), (12, [])][1]? = some (12, []) ∧ (∀ o' ∈ [(3, ([0x61] : List Byte)), (12, [])].take 1, o'.1 ≠ 12) ∧
      ∀ o ∈ [(3, ([0x61] : List Byte)), (12, [])], o.1 ≠ 65535 := by decide

theorem witness_RemoveOptionDeletesTheFirstMatch :
    bare.Inv ∧ bare.contents = some ([(3, [0x61]), (12, [])], []) ∧
      [(3, ([0x61] : List Byte)), (12, [])][0]? = some (3, [0x61]) ∧
      (∀ o ∈ [(3, ([0x61] : List Byte)), (12, [])], o.1 ≠ 65535) ∧ 65535 < (65536 : Word).toNat :=
  ⟨bare_inv, by decide⟩

theorem witness_MutationsActOnTheLogicalMessage :
    ∃ t, ({ sample with arg0 := 11, arg1 := 0 } : State).Inv ∧
      ({ sample with arg0 := 11, arg1 := 0 } : State).contents = some ([(11, [0x68, 0x69])], [0x58]) ∧
      exec .removeOption { sample with arg0 := 11, arg1 := 0 } = .next t ∧ t.status = .ok :=
  ⟨_, sample_inv_given 11 0, by decide, rfl, by decide⟩

theorem witness_IterNextReturnsTheNextEntry :
    sample.Inv ∧ sample.contents = some ([] ++ [(11, [0x68, 0x69])], [0x58]) ∧ sample.itValid = true ∧
      sample.itPos.toNat = sample.maxHdr.toNat + sample.tkl.toNat + (encodeOptions []).length ∧
      sample.itNum.toNat = lastNumber [] ∧ bare.itValid = false :=
  ⟨sample_inv, by decide⟩

theorem witness_IterNextReturnsTheNextEntry_end :
    let s := iterAt sample 11 11
    s.contents = some ([(11, [0x68, 0x69])] ++ [], [0x58]) ∧ s.itValid = true ∧
      s.itPos.toNat = s.maxHdr.toNat + s.tkl.toNat + (encodeOptions [(11, [0x68, 0x69])]).length ∧
      s.itNum.toNat = lastNumber [(11, [0x68, 0x69])] := by decide

theorem witness_FullPassReturnsEveryOption :
    sample.Inv ∧ sample.contents = some ([(11, [0x68, 0x69])], [0x58]) ∧
      [(11, ([0x68, 0x69] : List Byte))][0]? = some (11, [0x68, 0x69]) ∧ [(11, ([0x68, 0x69] : List Byte))].length ≤ 1 :=
  ⟨sample_inv, by decide⟩

theorem witness_WireElementRowsIterate :
    bare.itValid = false ∧ sample.itValid = true ∧ (14 : BitVec 4) ≠ 15 ∧ (0 : BitVec 4) ≠ 15 := by decide

theorem witness_AddDataAppendsThePayload :
    sample.contents = some ([(11, [0x68, 0x69])], [0x58]) ∧ ¬sample.cfg.inbufBytes.toNat < (131072 : Word).toNat ∧
      bare.contents = some ([(3, [0x61]), (12, [])], []) ∧ sample.cfg.inbufBytes.toNat < (131073 : Word).toNat := by decide

theorem witness_GetDataLocatesThePayload :
    sample.contents = some ([(11, [0x68, 0x69])], [0x58]) ∧ bare.contents = some ([(3, [0x61]), (12, [])], []) := by decide

theorem witness_ReportingRowsChangeOnlyResults : ∃ t, ReportingRow .getData ∧ exec .getData sample = .next t := ⟨_, trivial, rfl⟩

theorem witness_IteratorRowsMoveOnlyTheIterator : ∃ t, IteratorRow .iterNext ∧ exec .iterNext sample = .next t := ⟨_, trivial, rfl⟩

theorem witness_RegisterCommandsStoreNothing :
    (∃ t, exec (.msgInit .stream) State.reset = .next t) ∧ (∃ t, exec .clear sample = .next t) ∧
      (∃ t, exec .resize sample = .next t) ∧ (∃ t, exec .setType sample = .next t) ∧ (∃ t, exec .setCode sample = .next t) ∧
      ∃ t, exec .setMid sample = .next t :=
  ⟨⟨_, rfl⟩, ⟨_, rfl⟩, ⟨_, rfl⟩, ⟨_, rfl⟩, ⟨_, rfl⟩, ⟨_, rfl⟩⟩

theorem witness_BodyCommandsChangeOnlyTheBody :
    ∃ t, BodyCommand .removeOption ∧ exec .removeOption { sample with arg0 := 11 } = .next t ∧ t.status = .ok :=
  ⟨_, by unfold BodyCommand; decide, rfl, by decide⟩

theorem witness_FramingCommandsStoreOnlyTheFrame :
    (∃ t, exec .encodeHdr sample = .next t) ∧ ∃ t, exec (.parse .dgram) receiver = .next t ∧ t.status = .ok :=
  ⟨⟨_, rfl⟩, ⟨_, rfl, by decide⟩⟩

theorem witness_CommandsNeverWriteInbuf : ∃ t, exec (.parse .dgram) receiver = .next t ∧ t.status = .ok := ⟨_, rfl, by decide⟩

theorem witness_FlagsFollowTheTable :
    (∃ t, sample.Inv ∧ exec .encodeHdr sample = .next t ∧ t.status = .ok) ∧
      ∃ t, ({ sample with arg0 := 11, arg1 := 0 } : State).Inv ∧
        exec .removeOption { sample with arg0 := 11, arg1 := 0 } = .next t ∧ t.status = .ok ∧ ChangesBody .removeOption sample :=
  ⟨⟨_, sample_inv, rfl, by decide⟩, ⟨_, sample_inv_given 11 0, rfl, by decide, .inl (by decide)⟩⟩

end Sys2Proof.Tests
end

section
/-! PROOF. The option codec is a bijection (41 R180 to R184): an extension form and its value, an entry and its bytes, an option
list with its payload and the bytes after the token. -/

namespace Sys2Proof.Machine

/-! ### Extension forms (R104 to R106) -/

theorem be16_be16bytes {v : Nat} (h : v < 65536) :
    be16 (BitVec.ofNat 8 (v / 256)) (BitVec.ofNat 8 v) = v := by
  simp only [be16, BitVec.toNat_ofNat]; omega

theorem be16bytes_be16 (x y : Byte) : be16bytes (be16 x y) = [x, y] := by
  have hx := x.isLt
  have hy := y.isLt
  simp only [be16bytes, be16, List.cons.injEq, and_true]
  constructor <;> apply BitVec.eq_of_toNat_eq <;> simp only [BitVec.toNat_ofNat] <;> omega

theorem extDec_oneByte (x : Byte) : extDec 13 [x] = x.toNat + 13 := rfl

theorem extDec_twoBytes (x y : Byte) : extDec 14 [x, y] = be16 x y + 269 := rfl

/-- The value of an option's form, and that no option uses nibble 15 (R106, R109). -/
theorem extDec_of_extEnc {v : Nat} {f : BitVec 4 × List Byte} (h : extEnc v = some f) : extDec f.1 f.2 = v ∧ f.1 ≠ 15 := by
  unfold extEnc at h
  split at h
  · next hv =>
    cases h
    have hm : v % 16 = v := Nat.mod_eq_of_lt (by omega)
    refine ⟨by simp [extDec, hm, hv], fun hf => ?_⟩
    have := congrArg BitVec.toNat hf
    simp [hm] at this; omega
  · split at h
    · cases h
      refine ⟨?_, nofun⟩
      rw [extDec_oneByte, BitVec.toNat_ofNat]; omega
    · split at h
      · cases h
        refine ⟨?_, nofun⟩
        rw [be16bytes, extDec_twoBytes, be16_be16bytes (by omega)]; omega
      · cases h

/-- A value's form is the only one (R106). -/
theorem extEnc_extDec {k : BitVec 4} {e : List Byte} (hk : k ≠ 15) (he : e.length = extLen k) :
    extEnc (extDec k e) = some (k, e) := by
  have hlt := k.isLt
  have hne : k.toNat ≠ 15 := fun h => hk (BitVec.eq_of_toNat_eq h)
  by_cases h12 : k.toNat ≤ 12
  · have : e = [] := by simpa [extLen, h12] using he
    simp [extEnc, extDec, h12, this]
  by_cases h13 : k = 13
  · subst h13
    obtain ⟨x, rfl⟩ := List.length_eq_one_iff.mp (show e.length = 1 from he)
    have hx := x.isLt
    rw [extDec_oneByte, extEnc, if_neg (by omega), if_pos (by omega)]
    simp
  · obtain rfl : k = 14 := by
      apply BitVec.eq_of_toNat_eq
      have : k.toNat ≠ 13 := fun h => h13 (BitVec.eq_of_toNat_eq h)
      show k.toNat = 14; omega
    obtain ⟨x, y, rfl⟩ := List.length_eq_two.mp (show e.length = 2 from he)
    have hx := x.isLt
    have hy := y.isLt
    have hb : be16 x y ≤ 65535 := by unfold be16; omega
    rw [extDec_twoBytes, extEnc, if_neg (by omega), if_neg (by omega), if_pos (by omega), Nat.add_sub_cancel, be16bytes_be16]

theorem extEnc_eq_extForm {v : Nat} (h : v ≤ 65535) : extEnc v = some (extForm v) := by
  obtain ⟨f, hf⟩ := Option.isSome_iff_exists.mp (extEnc_isSome (v := v) (by omega))
  rw [extForm, hf, Option.getD_some]

theorem extDec_extForm {v : Nat} (h : v ≤ 65535) : extDec (extForm v).1 (extForm v).2 = v :=
  (extDec_of_extEnc (extEnc_eq_extForm h)).1

theorem extForm_nibble_ne {v : Nat} (h : v ≤ 65535) : (extForm v).1 ≠ 15 :=
  (extDec_of_extEnc (extEnc_eq_extForm h)).2

theorem extForm_length {v : Nat} (h : v ≤ 65535) : (extForm v).2.length = extLen (extForm v).1 :=
  extEnc_length (extEnc_eq_extForm h)

theorem extForm_extDec {k : BitVec 4} {e : List Byte} (hk : k ≠ 15) (he : e.length = extLen k) :
    extForm (extDec k e) = (k, e) := by rw [extForm, extEnc_extDec hk he, Option.getD_some]

/-! ### One entry -/

/-- The bytes of an entry after its control byte. -/
def entryTail (d : Nat) (v : List Byte) : List Byte := (extForm d).2 ++ ((extForm v.length).2 ++ v)

theorem encodeEntry_eq (d : Nat) (v : List Byte) :
    encodeEntry d v = packNibbles (extForm d).1 (extForm v.length).1 :: entryTail d v := by
  simp [encodeEntry, entryTail]

/-- No entry begins with the marker (R109). -/
theorem packNibbles_ne_marker {k l : BitVec 4} (hk : k ≠ 15) : packNibbles k l ≠ 0xFF := by
  rw [Ne, eq_marker_iff, hiNibble_packNibbles]
  exact fun h => hk h.1

/-- R180's turn over the bytes of an entry gives the entry back. -/
theorem decodeEntry_entryTail {num d : Nat} {v : List Byte} (hn : num + d ≤ 65535) (hv : v.length ≤ 65535) (r : List Byte) :
    decodeEntry num (packNibbles (extForm d).1 (extForm v.length).1) (entryTail d v ++ r) = some ((num + d, v), r) := by
  have hd := extForm_nibble_ne (v := d) (by omega)
  have hl := extForm_nibble_ne hv
  have hde := extDec_extForm (v := d) (by omega)
  have hle := extDec_extForm hv
  have hdl := extForm_length (v := d) (by omega)
  have hll := extForm_length hv
  rw [entryTail]
  generalize extForm d = f at *
  generalize extForm v.length = g at *
  have hmax : ¬(65535 < num + d ∨ 65535 < v.length) := by omega
  rw [decodeEntry, hiNibble_packNibbles, loNibble_packNibbles, if_neg (not_or.mpr ⟨hd, hl⟩)]
  simp [← hdl, ← hll, hde, hle, hmax]

/-- Bytes from which R180's turn takes an entry are the encoding of that entry and the bytes after it. -/
theorem encodeEntry_of_decodeEntry {num n : Nat} {c : Byte} {r r' v : List Byte}
    (h : decodeEntry num c r = some ((n, v), r')) :
    num ≤ n ∧ n ≤ 65535 ∧ v.length ≤ 65535 ∧ c :: r = encodeEntry (n - num) v ++ r' := by
  unfold decodeEntry at h
  split at h
  · cases h
  next hnib =>
  split at h
  · cases h
  next hd =>
  dsimp only at h
  split at h
  · cases h
  next hl =>
  split at h
  · cases h
  next hmax =>
  split at h
  · cases h
  next hlen =>
  push Not at hnib
  simp only [Option.some.injEq, Prod.mk.injEq] at h
  obtain ⟨⟨rfl, rfl⟩, rfl⟩ := h
  generalize hE : r.take (extLen (hiNibble c)) = e at *
  generalize hR : r.drop (extLen (hiNibble c)) = r1 at *
  generalize hE' : r1.take (extLen (loNibble c)) = e' at *
  generalize hR' : r1.drop (extLen (loNibble c)) = r2 at *
  have he : e.length = extLen (hiNibble c) := by rw [← hE, List.length_take]; omega
  have he' : e'.length = extLen (loNibble c) := by rw [← hE', List.length_take]; omega
  have hv : (r2.take (extDec (loNibble c) e')).length = extDec (loNibble c) e' := by rw [List.length_take]; omega
  refine ⟨by omega, by omega, by omega, ?_⟩
  rw [encodeEntry_eq, entryTail, Nat.add_sub_cancel_left, hv, extForm_extDec hnib.1 he, extForm_extDec hnib.2 he',
    packNibbles_nibbles]
  simp only [List.cons_append, List.append_assoc, List.take_append_drop, List.cons.injEq, true_and]
  rw [← hE, ← hE', ← hR', List.take_append_drop, ← hR, List.take_append_drop]

/-! ### Option lists -/

/-- What stands after the options (R182): nothing, or the marker and the payload. -/
def payloadPart (p : List Byte) : List Byte := if p = [] then [] else 0xFF :: p

@[simp] theorem payloadPart_nil : payloadPart [] = [] := rfl

theorem payloadPart_of_ne {p : List Byte} (h : p ≠ []) : payloadPart p = 0xFF :: p := if_neg h

theorem rebuildRest_eq (os : List Opt) (p : List Byte) : rebuildRest os p = encodeOptions os ++ payloadPart p := rfl

theorem rebuildRest_nil : rebuildRest [] [] = [] := rfl

/-- Options in stored order after an entry numbered `num`. -/
def optsOkFrom (num : Nat) (os : List Opt) : Prop :=
  (num :: os.map Prod.fst).Pairwise (· ≤ ·) ∧ ∀ o ∈ os, o.1 ≤ 65535 ∧ o.2.length ≤ 65535

theorem optsOkFrom_zero_iff (os : List Opt) : optsOkFrom 0 os ↔ optsOk os := by
  simp [optsOkFrom]

theorem optsOkFrom_nil (num : Nat) : optsOkFrom num [] := by simp [optsOkFrom]

theorem optsOkFrom_cons_iff (num n : Nat) (v : List Byte) (os : List Opt) :
    optsOkFrom num ((n, v) :: os) ↔ (num ≤ n ∧ n ≤ 65535 ∧ v.length ≤ 65535) ∧ optsOkFrom n os := by
  simp only [optsOkFrom, List.map_cons, List.pairwise_cons, List.forall_mem_cons]
  constructor
  · rintro ⟨⟨⟨h1, -⟩, h2, h3⟩, ⟨h4, h5⟩, h6⟩
    exact ⟨⟨h1, h4, h5⟩, ⟨h2, h3⟩, h6⟩
  · rintro ⟨⟨h1, h4, h5⟩, ⟨h2, h3⟩, h6⟩
    exact ⟨⟨⟨h1, fun a ha => h1.trans (h2 a ha)⟩, h2, h3⟩, ⟨h4, h5⟩, h6⟩

/-- R180's loop stops at the end of the options with the payload. -/
theorem decodeOptionsLoop_payloadPart {fuel : Nat} {p : List Byte} (num : Nat) (hf : (payloadPart p).length ≤ fuel) :
    decodeOptionsLoop fuel num (payloadPart p) = some ([], p) := by
  by_cases hp : p = []
  · subst hp; cases fuel <;> rfl
  · rw [payloadPart_of_ne hp] at hf ⊢
    rw [List.length_cons] at hf
    obtain ⟨fuel, rfl⟩ : ∃ k, fuel = k + 1 := ⟨fuel - 1, by omega⟩
    simp [decodeOptionsLoop, hp]

/-- R180's loop reads back what R182 writes. -/
theorem decodeOptionsLoop_encodeOptionsFrom {os : List Opt} {p : List Byte} {fuel num : Nat} (h : optsOkFrom num os)
    (hf : (encodeOptionsFrom num os ++ payloadPart p).length ≤ fuel) :
    decodeOptionsLoop fuel num (encodeOptionsFrom num os ++ payloadPart p) = some (os, p) := by
  induction os generalizing fuel num with
  | nil => exact decodeOptionsLoop_payloadPart num hf
  | cons o os ih =>
    obtain ⟨n, v⟩ := o
    obtain ⟨⟨hle, hn, hv⟩, hos⟩ := (optsOkFrom_cons_iff ..).mp h
    simp only [encodeOptionsFrom, encodeEntry_eq, List.cons_append, List.append_assoc, List.length_cons,
      List.length_append] at hf ⊢
    obtain ⟨fuel, rfl⟩ : ∃ k, fuel = k + 1 := ⟨fuel - 1, by omega⟩
    have hne := packNibbles_ne_marker (l := (extForm v.length).1) (extForm_nibble_ne (v := n - num) (by omega))
    have hentry := decodeEntry_entryTail (num := num) (d := n - num) (by omega) hv (encodeOptionsFrom n os ++ payloadPart p)
    rw [Nat.add_sub_cancel' hle] at hentry
    simp only [decodeOptionsLoop, if_neg hne, hentry]
    rw [ih hos (by rw [List.length_append]; omega)]

/-- Bytes that R180's loop decodes are those R182 writes for a sorted list. -/
theorem encodeOptionsFrom_of_decodeOptionsLoop {fuel num : Nat} {r p : List Byte} {os : List Opt}
    (h : decodeOptionsLoop fuel num r = some (os, p)) :
    r = encodeOptionsFrom num os ++ payloadPart p ∧ optsOkFrom num os := by
  induction fuel generalizing num r os with
  | zero =>
    cases r with
    | nil => cases h; exact ⟨rfl, optsOkFrom_nil num⟩
    | cons c r => cases h
  | succ fuel ih =>
    cases r with
    | nil => cases h; exact ⟨rfl, optsOkFrom_nil num⟩
    | cons c r =>
      simp only [decodeOptionsLoop] at h
      split at h
      · next hc =>
        split at h
        · cases h
        · next hr => cases h; exact ⟨by rw [payloadPart_of_ne hr, hc]; rfl, optsOkFrom_nil num⟩
      · split at h
        · cases h
        next o r' hentry =>
        split at h
        · cases h
        next os' p' hloop =>
        cases h
        obtain ⟨n, v⟩ := o
        obtain ⟨hle, hn, hv, hbytes⟩ := encodeEntry_of_decodeEntry hentry
        obtain ⟨hr', hos⟩ := ih hloop
        exact ⟨by rw [hbytes, hr', encodeOptionsFrom, List.append_assoc],
          (optsOkFrom_cons_iff ..).mpr ⟨⟨hle, hn, hv⟩, hos⟩⟩

/-- R184, from the list to the bytes and back. -/
theorem decodeOptions_rebuildRest {os : List Opt} (h : optsOk os) (p : List Byte) :
    decodeOptions (rebuildRest os p) = some (os, p) :=
  decodeOptionsLoop_encodeOptionsFrom ((optsOkFrom_zero_iff os).mpr h) le_rfl

/-- R184, from the bytes to the list and back. -/
theorem rebuildRest_of_decodeOptions {r p : List Byte} {os : List Opt} (h : decodeOptions r = some (os, p)) :
    r = rebuildRest os p ∧ optsOk os :=
  (encodeOptionsFrom_of_decodeOptionsLoop h).imp id (optsOkFrom_zero_iff os).mp

/-! ### Changed option lists (R185, R190 to R193) -/

theorem optsOk_iff_sorted_forall (os : List Opt) :
    optsOk os ↔ os.Pairwise (fun a b => a.1 ≤ b.1) ∧ ∀ o ∈ os, o.1 ≤ 65535 ∧ o.2.length ≤ 65535 := by
  rw [optsOk, List.pairwise_map]

/-- Entries before the insertion point have at most the new number (R185). -/
theorem le_of_mem_take_insertPos {os : List Opt} {n : Nat} {o : Opt} (h : o ∈ os.take (insertPos os n)) : o.1 ≤ n := by
  obtain ⟨i, hi, rfl⟩ := List.mem_take_iff_getElem.mp h
  simpa using List.not_of_lt_findIdx (p := fun o : Opt => decide (n < o.1)) (xs := os) (i := i) (by unfold insertPos at hi; omega)

/-- Entries from the insertion point on have a greater number (R185). -/
theorem lt_of_mem_drop_insertPos {os : List Opt} {n : Nat} {o : Opt} (hs : optsOk os) (h : o ∈ os.drop (insertPos os n)) :
    n < o.1 := by
  obtain ⟨i, hi, rfl⟩ := List.mem_drop_iff_getElem.mp h
  have hk : insertPos os n < os.length := by omega
  have hat : n < os[insertPos os n].1 :=
    of_decide_eq_true (List.findIdx_getElem (p := fun o : Opt => decide (n < o.1)) (xs := os) (w := hk))
  rcases Nat.eq_zero_or_pos i with rfl | hpos
  · exact hat
  · exact hat.trans_le (List.pairwise_iff_getElem.mp ((optsOk_iff_sorted_forall os).mp hs).1 _ (insertPos os n + i) hk (by omega)
      (by omega))

/-- R188. -/
theorem optsOk_insertAt {os : List Opt} (h : optsOk os) {n : Nat} {v : List Byte} (hn : n ≤ 65535) (hv : v.length ≤ 65535) :
    optsOk (insertAt os (insertPos os n) n v) := by
  have hlo : ∀ o ∈ os.take (insertPos os n), o.1 ≤ n := fun o => le_of_mem_take_insertPos
  have hhi : ∀ o ∈ os.drop (insertPos os n), n < o.1 := fun o => lt_of_mem_drop_insertPos h
  obtain ⟨hs, hb⟩ := (optsOk_iff_sorted_forall os).mp h
  refine (optsOk_iff_sorted_forall _).mpr ⟨?_, ?_⟩
  · rw [insertAt, List.pairwise_append, List.pairwise_cons]
    refine ⟨hs.take, ⟨fun o ho => (hhi o ho).le, hs.drop⟩, fun a ha b hbm => ?_⟩
    rcases List.mem_cons.mp hbm with rfl | hbm
    · exact hlo a ha
    · exact (hlo a ha).trans (hhi b hbm).le
  · intro o ho
    rcases List.mem_append.mp ho with ho | ho
    · exact hb o (List.mem_of_mem_take ho)
    · rcases List.mem_cons.mp ho with rfl | ho
      · exact ⟨hn, hv⟩
      · exact hb o (List.mem_of_mem_drop ho)

/-- R192: the entry found keeps its number, so the order stays. -/
theorem optsOk_set_firstWith {os : List Opt} (h : optsOk os) {n j : Nat} {v : List Byte} (hj : firstWith os n = some j)
    (hv : v.length ≤ 65535) : optsOk (os.set j (n, v)) := by
  obtain ⟨hlt, hnum, -⟩ := List.findIdx?_eq_some_iff_getElem.mp hj
  have hn : os[j].1 = n := by simpa using hnum
  have hmap : (os.set j (n, v)).map Prod.fst = os.map Prod.fst := by
    rw [List.map_set, ← hn, ← List.getElem_map Prod.fst (h := by simpa using hlt), List.set_getElem_self]
  refine ⟨hmap ▸ h.1, fun o ho => ?_⟩
  rcases List.mem_or_eq_of_mem_set ho with ho | rfl
  · exact h.2 o ho
  · exact ⟨hn ▸ (h.2 _ (List.getElem_mem hlt)).1, hv⟩

/-- R193. -/
theorem optsOk_eraseIdx {os : List Opt} (h : optsOk os) (j : Nat) : optsOk (os.eraseIdx j) :=
  ⟨h.1.sublist ((List.eraseIdx_sublist os j).map Prod.fst), fun o ho => h.2 o ((List.eraseIdx_sublist os j).mem ho)⟩

end Sys2Proof.Machine
end

section
/-! PROOF. The invariant as a rule per kind of update: what it does not read (STATUS, RES and the like), updates that keep the
stored body, and updates that store a new one. -/

namespace Sys2Proof.Machine

/-! ### Stretches of memory and the views of the body -/

/-- A stretch inside a longer one. -/
theorem State.readBytes_slice (s : State) (a : Nat) {i k n : Nat} (h : i + k ≤ n) :
    s.readBytes (a + i) k = ((s.readBytes a n).drop i).take k := by
  refine List.ext_getElem (by simp; omega) fun j h1 h2 => ?_
  simp [Nat.add_assoc]

/-- Reading a stretch depends on the epoch and that stretch alone. -/
theorem State.readBytes_congr_read {s t : State} {a n : Nat} (he : t.epoch = s.epoch)
    (hr : ∀ i < n, t.mem.read (a + i) = s.mem.read (a + i)) : t.readBytes a n = s.readBytes a n := by
  refine List.ext_getElem (by simp) fun i h1 h2 => ?_
  simp only [State.readBytes_length] at h1
  simp [State.peek, he, hr i h1]

theorem State.token_append_rest (s : State) : s.token ++ s.rest = s.body := List.take_append_drop ..

theorem State.token_length {s : State} (h : s.tkl.toNat ≤ s.used.toNat) : s.token.length = s.tkl.toNat := by
  rw [State.token, List.length_take, State.body_length]; omega

/-- R27. -/
theorem hdrReserve_le (p : Transport) : (hdrReserve p).toNat ≤ 6 := by cases p <;> decide

/-! ### Sound bodies -/

/-- R41 for bytes: a token of at most 8 bytes, and the encoding of a sorted option list and a payload. -/
structure SoundBody (b : List Byte) (tkl : Nat) : Prop where
  token_le : tkl ≤ 8
  token_length : tkl ≤ b.length
  encoded : ∃ os p, optsOk os ∧ b.drop tkl = rebuildRest os p

/-- A token and the encoding of a list and a payload make a sound body. -/
theorem soundBody_append {tok : List Byte} {os : List Opt} (h : tok.length ≤ 8) (ho : optsOk os) (p : List Byte) :
    SoundBody (tok ++ rebuildRest os p) tok.length :=
  ⟨h, by simp, os, p, ho, List.drop_left⟩

theorem State.bodyOk_of_soundBody {s : State} (h : SoundBody s.body s.tkl.toNat) (hi : s.itValid = false) : s.BodyOk := by
  obtain ⟨os, p, ho, hr⟩ := h.encoded
  refine ⟨os, p, ?_, ho, hr, by simp [hi]⟩
  rw [State.contents, State.rest, hr, decodeOptions_rebuildRest ho]

/-- R41 under the invariant, for the list and the payload that the views show. -/
theorem State.Inv.of_contents {s : State} (h : s.Inv) {os : List Opt} {p : List Byte} (hc : s.contents = some (os, p)) :
    optsOk os ∧ s.rest = rebuildRest os p := by
  obtain ⟨os', p', hc', ho, hr, -⟩ := h.body_ok
  obtain ⟨rfl, rfl⟩ : os' = os ∧ p' = p := by simpa [hc] using hc'.symm
  exact ⟨ho, hr⟩

/-- The store's end is an address (R7). -/
theorem State.Inv.end_lt {s : State} (h : s.Inv) : s.maxHdr.toNat + s.used.toNat < 4294967296 := by
  have hr : s.maxHdr.toNat ≤ 6 := h.reserve ▸ hdrReserve_le s.proto
  have := h.used_alloc
  have := h.alloc_store
  obtain ⟨-, hstore, -, -⟩ := h.cfg_wf
  omega

/-! ### Updates that the invariant does not read -/

/-- The state with the fields of another that no clause of the invariant reads. -/
def State.withUnread (s u : State) : State :=
  { s with
    cmd := u.cmd, arg0 := u.arg0, arg1 := u.arg1, status := u.status, res0 := u.res0, res1 := u.res1, res2 := u.res2,
    res3 := u.res3, hdrValid := u.hdrValid, msgCode := u.msgCode, host := u.host, rdata := u.rdata, draws := u.draws }

/-- The stored body and what gives it its meaning are those of s. An update that names none of these fields keeps them all, which
is each field's default proof. -/
structure State.KeepsBody (s t : State) : Prop where
  proto : t.proto = s.proto := by rfl
  maxHdr : t.maxHdr = s.maxHdr := by rfl
  tkl : t.tkl = s.tkl := by rfl
  used : t.used = s.used := by rfl
  maxSize : t.maxSize = s.maxSize := by rfl
  cfg : t.cfg = s.cfg := by rfl
  epoch : t.epoch = s.epoch := by rfl
  read : ∀ i < s.used.toNat,
    t.mem.read (storeBase + s.maxHdr.toNat + i) = s.mem.read (storeBase + s.maxHdr.toNat + i) := by intros; rfl

namespace State.KeepsBody

variable {s t : State} (k : s.KeepsBody t)

include k

theorem body_eq : t.body = s.body := by
  rw [State.body, State.body, State.memRead, State.memRead, k.maxHdr, k.used]
  exact State.readBytes_congr_read k.epoch k.read

theorem rest_eq : t.rest = s.rest := by rw [State.rest, State.rest, k.body_eq, k.tkl]

theorem contents_eq : t.contents = s.contents := by rw [State.contents, State.contents, k.rest_eq]

theorem limit_eq : t.limit = s.limit := by rw [State.limit, State.limit, k.maxSize, k.cfg]

end State.KeepsBody

/-- An update that keeps the body keeps the invariant if the other fields it reads still meet their clauses. -/
theorem State.Inv.of_keepsBody {s t : State} (h : s.Inv) (k : s.KeepsBody t) (hmem : t.mem.wf)
    (hzero : s.proto = .stream → t.msgType = 0 ∧ t.msgId = 0)
    (hsize : t.hdrSize.toNat ∈ [0, 2, 3, 4, 6] ∧ t.hdrSize.toNat ≤ s.maxHdr.toNat)
    (hgrow : s.alloc.toNat ≤ t.alloc.toNat) (hstore : t.alloc.toNat ≤ s.cfg.storeBytes.toNat)
    (hiter : ∀ os p, s.contents = some (os, p) → t.itValid = true →
      (t.itPos.toNat, t.itNum.toNat) ∈ iterStops (s.maxHdr.toNat + s.tkl.toNat) 0 os) : t.Inv where
  cfg_wf := k.cfg ▸ h.cfg_wf
  mem_wf := hmem
  reserve := by rw [k.maxHdr, k.proto, h.reserve]
  stream_zero := k.proto ▸ hzero
  hdr_size := k.maxHdr ▸ hsize
  token_le := k.tkl ▸ h.token_le
  token_used := by rw [k.tkl, k.used]; exact h.token_used
  used_alloc := k.used ▸ h.used_alloc.trans hgrow
  alloc_store := k.cfg ▸ hstore
  used_limit := by rw [k.used, k.limit_eq]; exact h.used_limit
  body_held i hi := by
    rw [k.used] at hi
    rw [k.maxHdr, k.read i hi]; exact h.body_held i hi
  body_ok := by
    obtain ⟨os, p, hc, ho, hr, -⟩ := h.body_ok
    refine ⟨os, p, k.contents_eq.trans hc, ho, k.rest_eq.trans hr, ?_⟩
    rw [k.maxHdr, k.tkl]
    exact hiter os p hc

/-- A valid iterator stands at a stop of the list that the views show (R32). -/
theorem State.Inv.iter_mem {s : State} (h : s.Inv) {os : List Opt} {p : List Byte} (hc : s.contents = some (os, p))
    (hv : s.itValid = true) : (s.itPos.toNat, s.itNum.toNat) ∈ iterStops (s.maxHdr.toNat + s.tkl.toNat) 0 os := by
  obtain ⟨os', p', hc', -, -, hi⟩ := h.body_ok
  obtain ⟨rfl, rfl⟩ : os' = os ∧ p' = p := by simpa [hc] using hc'.symm
  exact hi hv

/-- What the invariant does not read may change. -/
theorem State.Inv.withUnread {s : State} (h : s.Inv) (u : State) : (s.withUnread u).Inv :=
  h.of_keepsBody {} h.mem_wf h.stream_zero h.hdr_size le_rfl h.alloc_store
    fun _ _ => h.iter_mem

theorem State.Inv.raise {s : State} (h : s.Inv) (c : Completion) : (s.raise c).Inv := h.withUnread (s.raise c)

theorem State.Inv.finish {s : State} (h : s.Inv) (r0 r1 r2 r3 : Nat) : (s.finish r0 r1 r2 r3).Inv :=
  h.withUnread (s.finish r0 r1 r2 r3)

theorem State.Inv.drawn {s : State} (h : s.Inv) (n : Nat) : (s.drawn n).Inv := h.withUnread (s.drawn n)

/-- TYPE and MID may take any value that is zero on STREAM (R31). -/
theorem State.Inv.setHeaderFields {s : State} (h : s.Inv) (ty : BitVec 2) (id : BitVec 16)
    (hz : s.proto = .stream → ty = 0 ∧ id = 0) : ({ s with msgType := ty, msgId := id } : State).Inv :=
  h.of_keepsBody {} h.mem_wf hz h.hdr_size le_rfl h.alloc_store
    fun _ _ => h.iter_mem

/-- A write of memory outside the body keeps the invariant. -/
theorem State.Inv.setMem {s : State} (h : s.Inv) {m : Memory} (hm : m.wf)
    (hr : ∀ i < s.used.toNat, m.read (storeBase + s.maxHdr.toNat + i) = s.mem.read (storeBase + s.maxHdr.toNat + i)) :
    ({ s with mem := m } : State).Inv :=
  h.of_keepsBody { read := hr } hm h.stream_zero h.hdr_size le_rfl h.alloc_store
    fun _ _ => h.iter_mem

/-! ### Updates that store a new body -/

/-- A state with no message content meets the invariant once its parameters, memory, class and capacity are sound. -/
theorem State.inv_of_empty {s : State} (hcfg : s.cfg.wf) (hmem : s.mem.wf) (hres : s.maxHdr = hdrReserve s.proto)
    (halloc : s.alloc.toNat ≤ s.cfg.storeBytes.toNat) (hsize : s.hdrSize = 0) (hit : s.itValid = false)
    (htype : s.msgType = 0) (hid : s.msgId = 0) (htkl : s.tkl = 0) (hused : s.used = 0) : s.Inv where
  cfg_wf := hcfg
  mem_wf := hmem
  reserve := hres
  stream_zero _ := ⟨htype, hid⟩
  hdr_size := by simp [hsize]
  token_le := by simp [htkl]
  token_used := by simp [htkl]
  used_alloc := by simp [hused]
  alloc_store := halloc
  used_limit := by simp [hused]
  body_held := by simp [hused]
  body_ok := State.bodyOk_of_soundBody
    ⟨by simp [htkl], by simp [htkl], [], [], ⟨.nil, nofun⟩, List.eq_nil_of_length_eq_zero (by simp [hused])⟩ hit

/-- Whatever Grow answers is at least the need and within P_STORE_BYTES (R231). -/
theorem State.Inv.grow_bounds {s : State} (h : s.Inv) {need a d : Nat} (hl : need ≤ s.limit)
    (hg : s.grow need = ⟨some a, d⟩) : need ≤ a ∧ a ≤ s.cfg.storeBytes.toNat := by
  have := h.alloc_store
  rcases State.grow_some hl hg with ⟨_, rfl, _⟩ | ⟨_, _, _, _, _⟩ <;> omega

/-- The bytes of a body stored as CommitBody and PARSE store one. -/
theorem Memory.read_storeForget_memWrite (m : Memory) (o : Nat) (v : List Byte) {i : Nat} (h : i < v.length) :
    ((m.memWrite o v).storeForget (o + v.length)).read (storeBase + o + i) = some v[i] := by
  rw [Memory.storeForget, Memory.read_dropFrom_below _ (by omega)]
  exact Memory.read_writeBytes_inside m _ v h

/-- A state into which a sound body has just been stored meets the invariant if its other fields meet their clauses. -/
theorem State.inv_of_stored {s : State} {m : Memory} {nb : List Byte} (hm : m.wf)
    (hmem : s.mem = (m.memWrite s.maxHdr.toNat nb).storeForget (s.maxHdr.toNat + nb.length))
    (hb : SoundBody nb s.tkl.toNat) (hused : s.used.toNat = nb.length) (hit : s.itValid = false) (hcfg : s.cfg.wf)
    (hres : s.maxHdr = hdrReserve s.proto) (hzero : s.proto = .stream → s.msgType = 0 ∧ s.msgId = 0)
    (hsize : s.hdrSize.toNat ∈ [0, 2, 3, 4, 6] ∧ s.hdrSize.toNat ≤ s.maxHdr.toNat)
    (halloc : nb.length ≤ s.alloc.toNat) (hstore : s.alloc.toNat ≤ s.cfg.storeBytes.toNat)
    (hlimit : nb.length ≤ s.limit) : s.Inv := by
  have hread : ∀ i (hi : i < nb.length), s.mem.read (storeBase + s.maxHdr.toNat + i) = some nb[i] := fun i hi => by
    rw [hmem, Memory.read_storeForget_memWrite m _ nb hi]
  have hbody : s.body = nb := by rw [State.body, State.memRead, hused]; exact State.readBytes_eq hread
  exact
    { cfg_wf := hcfg
      mem_wf := hmem ▸ Memory.storeForget_wf (Memory.memWrite_wf hm _ _) _
      reserve := hres
      stream_zero := hzero
      hdr_size := hsize
      token_le := hb.token_le
      token_used := hused ▸ hb.token_length
      used_alloc := hused ▸ halloc
      alloc_store := hstore
      used_limit := hused ▸ hlimit
      body_held := fun i hi => by rw [hread i (hused ▸ hi)]; rfl
      body_ok := State.bodyOk_of_soundBody (hbody.symm ▸ hb) hit }

/-- The registers' widths hold a body's sizes (R7, R45). -/
theorem State.toNat_size {s : State} {n : Nat} (h : n ≤ s.limit ∨ n ≤ s.cfg.storeBytes.toNat) :
    (BitVec.ofNat 32 n).toNat = n := by
  have hlt := s.limit_lt
  have hst := s.cfg.storeBytes.isLt
  rw [BitVec.toNat_ofNat, Nat.mod_eq_of_lt (by omega)]

theorem toNat_tkl {n : Nat} (h : n ≤ 8) : (BitVec.ofNat 4 n).toNat = n := by
  rw [BitVec.toNat_ofNat, Nat.mod_eq_of_lt (by omega)]

/-- Storing a sound body keeps the invariant (R230). -/
theorem State.Inv.putBody {s : State} (h : s.Inv) {nb : List Byte} {ntkl a : Nat} (hb : SoundBody nb ntkl)
    (hl : nb.length ≤ s.limit) (ha : nb.length ≤ a) (hs : a ≤ s.cfg.storeBytes.toNat) : (s.putBody nb ntkl a).Inv := by
  have halloc : (s.putBody nb ntkl a).alloc.toNat = a := State.toNat_size (.inr hs)
  exact State.inv_of_stored h.mem_wf rfl (by rw [State.putBody_tkl, toNat_tkl hb.token_le]; exact hb) (State.toNat_size (.inl hl))
    rfl h.cfg_wf h.reserve h.stream_zero h.hdr_size (ha.trans_eq halloc.symm) (halloc.trans_le hs) hl

/-- CommitBody of a sound body keeps the invariant (R230). -/
theorem State.Inv.commitBody {s : State} (h : s.Inv) {nb : List Byte} {ntkl : Nat} (hb : SoundBody nb ntkl) (r0 r1 : Nat) :
    (s.commitBody nb ntkl r0 r1).Inv := by
  rcases s.commitBody_cases nb ntkl r0 r1 with ⟨-, he⟩ | ⟨-, d, -, he⟩ | ⟨hl, a, d, hg, he⟩ <;> rw [he]
  · exact h.raise _
  · exact (h.drawn d).raise _
  · obtain ⟨ha, hs⟩ := h.grow_bounds hl hg
    exact ((h.drawn d).putBody hb hl ha hs).finish _ _ _ _

end Sys2Proof.Machine
end

section
/-! PROOF. ITER_NEXT where a valid iterator stands (41 R201): at an entry it moves on by the entry, at the end it stays. -/

namespace Sys2Proof.Machine

/-! ### The places of R32 -/

/-- The number of the last entry of a list that stands after an entry numbered `num`. -/
def lastFrom (num : Nat) (os : List Opt) : Nat :=
  match os.getLast? with
  | some o => o.1
  | none => num

@[simp] theorem lastFrom_nil (num : Nat) : lastFrom num [] = num := rfl

@[simp] theorem lastFrom_cons (num n : Nat) (v : List Byte) (os : List Opt) : lastFrom num ((n, v) :: os) = lastFrom n os := by
  simp only [lastFrom, List.getLast?_cons]
  cases os.getLast? <;> rfl

@[simp] theorem lastFrom_concat (num n : Nat) (v : List Byte) (os : List Opt) : lastFrom num (os ++ [(n, v)]) = n := by
  simp [lastFrom]

theorem encodeOptionsFrom_append_lastFrom (num : Nat) (pre post : List Opt) :
    encodeOptionsFrom num (pre ++ post) = encodeOptionsFrom num pre ++ encodeOptionsFrom (lastFrom num pre) post :=
  encodeOptionsFrom_append num pre post

/-- A place of the iterator cuts the list in two: it stands after the first part's bytes, with its last number. -/
theorem mem_iterStops_iff {pos num : Nat} {os : List Opt} {x : Nat × Nat} :
    x ∈ iterStops pos num os ↔
      ∃ pre post, os = pre ++ post ∧ x = (pos + (encodeOptionsFrom num pre).length, lastFrom num pre) := by
  induction os generalizing pos num with
  | nil => simp [iterStops, encodeOptionsFrom]
  | cons o os ih =>
    obtain ⟨n, v⟩ := o
    rw [iterStops, List.mem_cons, ih]
    constructor
    · rintro (rfl | ⟨pre, post, rfl, rfl⟩)
      · exact ⟨[], _, rfl, rfl⟩
      · exact ⟨(n, v) :: pre, post, rfl, by simp [encodeOptionsFrom, Nat.add_assoc]⟩
    · rintro ⟨_ | ⟨⟨n', v'⟩, pre⟩, post, he, rfl⟩
      · exact .inl rfl
      · obtain ⟨⟨rfl, rfl⟩, rfl⟩ : (n = n' ∧ v = v') ∧ os = pre ++ post := by simpa using he
        exact .inr ⟨pre, post, rfl, by simp [encodeOptionsFrom, Nat.add_assoc]⟩

/-- From one place of the iterator over an entry to the next. -/
theorem next_mem_iterStops {pos num n : Nat} {v : List Byte} (pre post : List Opt) :
    (pos + (encodeOptionsFrom num pre).length + (encodeEntry (n - lastFrom num pre) v).length, n) ∈
      iterStops pos num (pre ++ (n, v) :: post) := by
  refine mem_iterStops_iff.mpr ⟨pre ++ [(n, v)], post, by simp, ?_⟩
  rw [encodeOptionsFrom_append_lastFrom, lastFrom_concat]
  simp [encodeOptionsFrom, Nat.add_assoc]

theorem optsOkFrom_of_append {num : Nat} {pre post : List Opt} (h : optsOkFrom num (pre ++ post)) :
    optsOkFrom (lastFrom num pre) post := by
  induction pre generalizing num with
  | nil => exact h
  | cons o pre ih =>
    obtain ⟨n, v⟩ := o
    rw [lastFrom_cons]
    exact ih ((optsOkFrom_cons_iff ..).mp h).2

/-! ### The bytes where the iterator stands -/

/-- The body's bytes from IT_POS on. -/
def State.ahead (s : State) : List Byte := s.body.drop (s.itPos.toNat - s.maxHdr.toNat)

theorem State.ahead_length (s : State) : s.ahead.length = s.used.toNat - (s.itPos.toNat - s.maxHdr.toNat) := by
  rw [State.ahead, List.length_drop, State.body_length]

/-- A valid iterator under the invariant (R32): some entries lie before it, and from it on stand the others and the payload. -/
theorem State.Inv.iter_stop {s : State} (h : s.Inv) (hv : s.itValid = true) :
    ∃ pre post p, s.contents = some (pre ++ post, p) ∧ optsOkFrom s.itNum.toNat post ∧
      s.itPos.toNat = s.maxHdr.toNat + s.tkl.toNat + (encodeOptions pre).length ∧ s.itNum.toNat = lastFrom 0 pre ∧
      s.ahead = encodeOptionsFrom s.itNum.toNat post ++ payloadPart p := by
  obtain ⟨os, p, hc, ho, hr, hi⟩ := h.body_ok
  obtain ⟨pre, post, rfl, hx⟩ := mem_iterStops_iff.mp (hi hv)
  obtain ⟨hpos, hnum⟩ := Prod.mk.inj hx
  refine ⟨pre, post, p, hc, hnum ▸ optsOkFrom_of_append ((optsOkFrom_zero_iff _).mpr ho), hpos, hnum, ?_⟩
  have hoff : s.itPos.toNat - s.maxHdr.toNat = s.tkl.toNat + (encodeOptionsFrom 0 pre).length := by omega
  rw [State.ahead, hoff, ← List.drop_drop]
  change s.rest.drop _ = _
  rw [hr, rebuildRest_eq, encodeOptions, encodeOptionsFrom_append_lastFrom, List.append_assoc, List.drop_left, hnum]

/-- The state with the iterator at a store offset after an entry of the given number. -/
def State.iterMoved (s : State) (pos num : Nat) : State :=
  { s with itPos := BitVec.ofNat 32 pos, itNum := BitVec.ofNat 16 num }

/-- A byte without a reserved nibble stands for an option control byte (R107). -/
theorem decodeWhole_packNibbles {d l : BitVec 4} (hd : d ≠ 15) (hl : l ≠ 15) :
    decodeWhole .optionPosition [packNibbles d l] = some (.wireOptionControl d l) := by
  revert d l; decide

section
variable {s : State} (hle : s.maxHdr.toNat ≤ s.itPos.toNat)
include hle

/-- Reads at and after IT_POS inside the body. -/
theorem State.memRead_ahead {i k : Nat} (h : i + k ≤ s.ahead.length) :
    s.memRead (s.itPos.toNat + i) k = (s.ahead.drop i).take k := by
  rw [State.ahead_length] at h
  by_cases hk : k = 0
  · simp [hk, State.memRead, State.readBytes]
  rw [State.memRead, show storeBase + (s.itPos.toNat + i) =
    storeBase + s.maxHdr.toNat + (s.itPos.toNat - s.maxHdr.toNat + i) by omega,
    State.readBytes_slice (n := s.used.toNat) _ _ (by omega), State.ahead, List.drop_drop]
  rfl

theorem State.storeByte_itPos {c : Byte} {r : List Byte} (ha : s.ahead = c :: r) : s.storeByte s.itPos.toNat = c := by
  have h := State.memRead_ahead hle (i := 0) (k := 1) (by simp [ha])
  simpa [ha, State.memRead, State.readBytes, State.storeByte] using h

/-- The body ends after the bytes ahead. -/
theorem State.itPos_add_ahead_length (ha : s.ahead ≠ []) :
    s.itPos.toNat + s.ahead.length = s.maxHdr.toNat + s.used.toNat := by
  have := List.length_pos_iff.mpr ha
  rw [State.ahead_length] at this ⊢
  omega

/-- Over an entry's bytes ITER_NEXT's reads give the entry's delta and length, and the place after it. -/
theorem State.iterEntry_encodeEntry {d : Nat} {v r : List Byte} (ha : s.ahead = encodeEntry d v ++ r) (hd : d ≤ 65535)
    (hv : v.length ≤ 65535) :
    s.iterEntry (extForm d).1 (extForm v.length).1 =
      (s.iterMoved (s.itPos.toNat + (encodeEntry d v).length) (s.itNum.toNat + d)).finish
        (s.itNum.toNat + d) (s.itPos.toNat + (encodeEntry d v).length - v.length) v.length 1 := by
  have hde := extDec_extForm hd
  have hle' := extDec_extForm hv
  have hdl := extForm_length hd
  have hll := extForm_length hv
  rw [encodeEntry_eq, entryTail] at ha ⊢
  generalize extForm d = f at *
  generalize extForm v.length = g at *
  have h1 : s.memRead (s.itPos.toNat + 1) (extLen f.1) = f.2 := by
    rw [State.memRead_ahead hle (by simp [ha]; omega), ha, ← hdl]; simp
  have h2 : s.memRead (s.itPos.toNat + 1 + extLen f.1) (extLen g.1) = g.2 := by
    rw [Nat.add_assoc, State.memRead_ahead hle (by simp [ha]; omega), ha, ← hdl, ← hll]; simp [Nat.add_comm 1]
  have hend : s.itPos.toNat + (packNibbles f.1 g.1 :: (f.2 ++ (g.2 ++ v))).length =
      s.itPos.toNat + 1 + extLen f.1 + extLen g.1 + v.length := by
    simp only [List.length_cons, List.length_append]; omega
  rw [hend, Nat.add_sub_cancel]
  simp only [State.iterEntry, State.iterMoved, h1, h2, hde, hle']

/-- R201 at an entry. -/
theorem execIterNext_entry (hvalid : s.itValid = true) {d : Nat} {v r : List Byte} (ha : s.ahead = encodeEntry d v ++ r)
    (hd : d ≤ 65535) (hv : v.length ≤ 65535) :
    execIterNext s = .next ((s.iterMoved (s.itPos.toNat + (encodeEntry d v).length) (s.itNum.toNat + d)).finish
        (s.itNum.toNat + d) (s.itPos.toNat + (encodeEntry d v).length - v.length) v.length 1) := by
  have hcons : s.ahead = packNibbles (extForm d).1 (extForm v.length).1 :: (entryTail d v ++ r) := by
    rw [ha, encodeEntry_eq, List.cons_append]
  have hlen := State.itPos_add_ahead_length hle (by simp [hcons])
  have hpos : ¬s.maxHdr.toNat + s.used.toNat ≤ s.itPos.toNat := by rw [hcons, List.length_cons] at hlen; omega
  have hdecode : decodeWhole .optionPosition [packNibbles (extForm d).1 (extForm v.length).1] =
      some (.wireOptionControl (extForm d).1 (extForm v.length).1) :=
    decodeWhole_packNibbles (extForm_nibble_ne hd) (extForm_nibble_ne hv)
  rw [execIterNext, if_neg (by simp [hvalid]), if_neg hpos, State.storeByte_itPos hle hcons, hdecode,
    ← State.iterEntry_encodeEntry hle ha hd hv]

/-- R201 at the end of the options. -/
theorem execIterNext_end (hvalid : s.itValid = true) {p : List Byte} (ha : s.ahead = payloadPart p) :
    execIterNext s = .next (s.finish 0 0 0 0) := by
  rw [execIterNext, if_neg (by simp [hvalid])]
  split
  · rfl
  next hpos =>
  by_cases hp : p = []
  · have := s.ahead_length
    rw [ha, hp, payloadPart_nil, List.length_nil] at this
    omega
  · rw [payloadPart_of_ne hp] at ha
    rw [State.storeByte_itPos hle ha]
    rfl

end

/-- The iterator may be put at any place of R32. -/
theorem State.Inv.setIter {s : State} (h : s.Inv) (valid : Bool) {pos num : Nat} (hpos : pos < 4294967296) (hnum : num < 65536)
    (hmem : ∀ os p, s.contents = some (os, p) → (pos, num) ∈ iterStops (s.maxHdr.toNat + s.tkl.toNat) 0 os) :
    ({ s with itValid := valid, itPos := BitVec.ofNat 32 pos, itNum := BitVec.ofNat 16 num } : State).Inv := by
  refine h.of_keepsBody {} h.mem_wf h.stream_zero h.hdr_size le_rfl
    h.alloc_store fun os p hc _ => ?_
  simp only [BitVec.toNat_ofNat]
  rw [Nat.mod_eq_of_lt hpos, Nat.mod_eq_of_lt hnum]
  exact hmem os p hc

/-- ITER_INIT keeps the invariant: the first place of R32 is the start of the options (R200). -/
theorem State.Inv.execIterInit {s t : State} (h : s.Inv) (ht : Machine.execIterInit s = .next t) : t.Inv := by
  cases ht
  have hlt : s.maxHdr.toNat + s.tkl.toNat < 4294967296 := by
    have := h.end_lt
    have := h.token_used
    omega
  exact (h.setIter true hlt (num := 0) (by decide) fun os p _ => mem_iterStops_iff.mpr ⟨[], os, rfl, rfl⟩).finish _ _ _ _

/-- ITER_NEXT keeps the invariant: it stays, or moves from one place of R32 to the next. -/
theorem State.Inv.execIterNext {s t : State} (h : s.Inv) (ht : Machine.execIterNext s = .next t) : t.Inv := by
  by_cases hv : s.itValid = true
  case neg =>
    rw [Machine.execIterNext, if_pos (by simpa using hv)] at ht
    cases ht; exact h.raise _
  obtain ⟨pre, post, p, hc, hpost, hpos, hnum, hahead⟩ := h.iter_stop hv
  have hle : s.maxHdr.toNat ≤ s.itPos.toNat := by omega
  cases post with
  | nil =>
    rw [execIterNext_end hle hv hahead] at ht
    cases ht; exact h.finish _ _ _ _
  | cons o post =>
    obtain ⟨n, v⟩ := o
    obtain ⟨⟨hn, hn', hv'⟩, -⟩ := (optsOkFrom_cons_iff ..).mp hpost
    rw [encodeOptionsFrom, List.append_assoc] at hahead
    rw [execIterNext_entry hle hv hahead (by omega) hv', Nat.add_sub_cancel' hn] at ht
    cases ht
    have hend : s.itPos.toNat + (encodeEntry (n - s.itNum.toNat) v).length < 4294967296 := by
      have := State.itPos_add_ahead_length hle (by simp [hahead, encodeEntry_eq])
      rw [hahead, List.length_append] at this
      have := h.end_lt
      omega
    refine (h.setIter s.itValid hend (by omega) fun os' p' hc' => ?_).finish _ _ _ _
    obtain ⟨rfl, rfl⟩ : os' = pre ++ (n, v) :: post ∧ p' = p := by simpa [hc] using hc'.symm
    have hstop := next_mem_iterStops (pos := s.maxHdr.toNat + s.tkl.toNat) (num := 0) (n := n) (v := v) pre post
    rwa [← hnum, ← encodeOptions, ← hpos] at hstop

end Sys2Proof.Machine
end

section
/-! PROOF. Framing keeps the invariant: what a decoded header says of its sizes (40 R140, R141), PARSE (R152) and ENCODE_HDR
(R153). -/

namespace Sys2Proof.Machine

/-! ### Header sizes -/

/-- A stream header's size is one of four, and fits the reservation (R27, R141). -/
theorem streamHeaderSize_mem (k : BitVec 4) : 2 + extLen k ∈ [0, 2, 3, 4, 6] ∧ 2 + extLen k ≤ 6 := by revert k; decide

/-- A datagram header that decodes has four bytes and a legal token length. -/
theorem hdrDecode_dgram_ok {m : Nat} {c : Bool} {b : List Byte} {h : Header} (hd : hdrDecode m c .dgram b = .ok h) :
    h.hs = 4 ∧ h.tkl ≤ 8 := by
  unfold hdrDecode at hd
  split at hd
  · cases hd
  split at hd
  · cases hd
  next htkl =>
  dsimp only at hd
  split at hd
  · split at hd
    · cases hd
    · split at hd
      · cases hd
      · cases hd; exact ⟨rfl, Nat.not_lt.mp htkl⟩
  · cases hd

/-- A stream header that decodes has its selector's size and a legal token length, and declares a frame that holds both. -/
theorem hdrDecode_stream_ok {m : Nat} {c : Bool} {b : List Byte} {h : Header} (hd : hdrDecode m c .stream b = .ok h) :
    (∃ k, h.hs = 2 + extLen k) ∧ h.tkl ≤ 8 ∧ h.hs + h.tkl ≤ h.total := by
  unfold hdrDecode at hd
  split at hd
  · cases hd
  split at hd
  · cases hd
  next htkl =>
  dsimp only at hd
  split at hd
  · cases hd
  · split at hd
    · cases hd
    · cases hd; exact ⟨⟨_, rfl⟩, Nat.not_lt.mp htkl, Nat.le_add_right ..⟩

/-- A decoded header's size is one of R28's, and fits the reservation of its class (R27). -/
theorem hdrDecode_hs {m : Nat} {c : Bool} {p : Transport} {b : List Byte} {h : Header} (hd : hdrDecode m c p b = .ok h) :
    h.hs ∈ [0, 2, 3, 4, 6] ∧ h.hs ≤ (hdrReserve p).toNat := by
  cases p with
  | dgram => rw [(hdrDecode_dgram_ok hd).1]; decide
  | stream =>
    obtain ⟨⟨k, hk⟩, -, -⟩ := hdrDecode_stream_ok hd
    rw [hk]; exact streamHeaderSize_mem k

/-- An encoded header's size is one of R28's (R142). -/
theorem hdrEncode_length {p : Transport} {ty : BitVec 2} {tkl : BitVec 4} {code : Byte} {mid : BitVec 16} {n : Nat}
    {r : List Byte} (he : hdrEncode p ty tkl code mid n = .ok r) : r.length ∈ [0, 2, 3, 4, 6] := by
  cases p with
  | dgram => cases he; simp
  | stream =>
    simp only [hdrEncode] at he
    split at he
    · cases he
    next sel ext hf =>
    cases he
    have hl : ext.length = extLen sel := by
      unfold extEncHdr at hf
      split at hf
      · exact extEnc_length hf
      · split at hf
        · cases hf; rfl
        · cases hf
    have hr : (packNibbles sel tkl :: ext ++ [code]).length = 2 + extLen sel := by simp [hl]; omega
    exact hr ▸ (streamHeaderSize_mem sel).1

/-! ### PARSE -/

/-- The body PARSE takes from a frame's bytes (R152). -/
def parsedBody (p : Transport) (b : List Byte) (h : Header) : List Byte := (b.take (frameLength p b.length h)).drop h.hs

/-- The token of a frame that does not stop short lies in its body. -/
theorem parsedBody_token {m : Nat} {c : Bool} {p : Transport} {b : List Byte} {h : Header} (hd : hdrDecode m c p b = .ok h)
    (ht : frameTruncated p b.length h = false) : h.tkl ≤ 8 ∧ h.tkl ≤ (parsedBody p b h).length := by
  rw [parsedBody, List.length_drop, List.length_take]
  cases p with
  | dgram =>
    obtain ⟨hhs, htkl⟩ := hdrDecode_dgram_ok hd
    simp [frameTruncated] at ht
    simp [frameLength]; omega
  | stream =>
    obtain ⟨-, htkl, htotal⟩ := hdrDecode_stream_ok hd
    simp [frameTruncated] at ht
    simp [frameLength]; omega

/-- Every outcome of PARSE after the header (R152): a failure, or the frame's body stored. -/
theorem State.parseBody_cases (s : State) (p : Transport) (b : List Byte) (h : Header) :
    (∃ c d, s.parseBody p b h = (s.drawn d).raise c) ∨
    ∃ os payload a d r0 r1 r2 r3, frameTruncated p b.length h = false ∧
      decodeOptions ((parsedBody p b h).drop h.tkl) = some (os, payload) ∧ (parsedBody p b h).length ≤ s.limit ∧
      s.grow (parsedBody p b h).length = ⟨some a, d⟩ ∧
      s.parseBody p b h = ((s.drawn d).putFrame p h (b.take h.hs) (parsedBody p b h) a).finish r0 r1 r2 r3 := by
  unfold State.parseBody
  split
  · exact .inl ⟨_, s.draws, rfl⟩
  next htrunc =>
  dsimp only
  split
  · exact .inl ⟨_, s.draws, rfl⟩
  next os payload hopts =>
  split
  · exact .inl ⟨_, s.draws, rfl⟩
  next hlimit =>
  split
  · exact .inl ⟨_, _, rfl⟩
  next a d hgrow =>
  exact .inr ⟨os, payload, a, d, _, _, _, _, by simpa using htrunc, hopts, Nat.not_lt.mp hlimit, hgrow, rfl⟩

/-- Storing a frame whose header decodes and whose body is sound keeps the invariant. -/
theorem State.Inv.putFrame {s : State} (hs : s.Inv) {p : Transport} {h : Header} (hdr : List Byte) {body : List Byte} {a : Nat}
    (hb : SoundBody body h.tkl) (hsize : h.hs ∈ [0, 2, 3, 4, 6] ∧ h.hs ≤ (hdrReserve p).toNat) (hl : body.length ≤ s.limit)
    (ha : body.length ≤ a) (hst : a ≤ s.cfg.storeBytes.toNat) : (s.putFrame p h hdr body a).Inv := by
  have halloc : (s.putFrame p h hdr body a).alloc.toNat = a := State.toNat_size (.inr hst)
  have hhs : (s.putFrame p h hdr body a).hdrSize.toNat = h.hs := by
    have := hdrReserve_le p
    rw [State.putFrame_hdrSize, BitVec.toNat_ofNat, Nat.mod_eq_of_lt (by omega)]
  refine State.inv_of_stored (Memory.memWrite_wf hs.mem_wf _ hdr) rfl (by rw [State.putFrame_tkl, toNat_tkl hb.token_le]; exact hb)
    (State.toNat_size (.inl hl)) rfl hs.cfg_wf rfl ?_ (hhs.symm ▸ hsize) (ha.trans_eq halloc.symm) (halloc.trans_le hst) hl
  rintro (rfl : p = .stream)
  exact ⟨rfl, rfl⟩

/-- PARSE keeps the invariant: it stores only bodies that decode (R41, R152). -/
theorem State.Inv.execParse {s t : State} (hs : s.Inv) {p : Transport} (ht : Machine.execParse p s = .next t) : t.Inv := by
  unfold Machine.execParse at ht
  split at ht
  · cases ht; exact hs.raise _
  split at ht
  · cases ht; exact hs.raise _
  next h hd =>
  cases ht
  rcases s.parseBody_cases p s.bytes0 h with ⟨c, d, he⟩ | ⟨os, payload, a, d, r0, r1, r2, r3, htrunc, hopts, hl, hg, he⟩ <;>
    rw [he]
  · exact (hs.drawn d).raise c
  · obtain ⟨htkl, hlen⟩ := parsedBody_token hd htrunc
    obtain ⟨hr, ho⟩ := rebuildRest_of_decodeOptions hopts
    obtain ⟨ha, hst⟩ := hs.grow_bounds hl hg
    exact ((hs.drawn d).putFrame _ ⟨htkl, hlen, os, payload, ho, hr⟩ (hdrDecode_hs hd) hl ha hst).finish _ _ _ _

/-! ### ENCODE_HDR -/

/-- ENCODE_HDR keeps the invariant: the header lies right before the body (R153). -/
theorem State.Inv.execEncodeHdr {s t : State} (h : s.Inv) (ht : Machine.execEncodeHdr s = .next t) : t.Inv := by
  unfold Machine.execEncodeHdr at ht
  split at ht
  · cases ht; exact h.raise _
  next r hr =>
  split at ht
  · cases ht; exact h.raise _
  next hfit =>
  cases ht
  have hlen : (BitVec.ofNat 3 r.length).toNat = r.length := by
    rw [BitVec.toNat_ofNat, Nat.mod_eq_of_lt (by omega)]
  have hkeep : s.KeepsBody (s.putHeader r) :=
    { read := fun i _ => Memory.read_writeBytes_outside _ _ _ (.inr (by omega)) }
  have hsize : (s.putHeader r).hdrSize.toNat ∈ [0, 2, 3, 4, 6] ∧ (s.putHeader r).hdrSize.toNat ≤ s.maxHdr.toNat := by
    rw [State.putHeader_hdrSize, hlen]
    exact ⟨hdrEncode_length hr, by omega⟩
  exact (h.of_keepsBody hkeep (Memory.memWrite_wf h.mem_wf _ r) h.stream_zero hsize le_rfl h.alloc_store
    fun _ _ => h.iter_mem).finish _ _ _ _

end Sys2Proof.Machine
end

section
/-! PROOF. Every command and every host access keeps the invariant, and so does every step (R7, R27, R28, R31, R32, R41, R42). -/

namespace Sys2Proof.Machine

/-! ### Operands and the exact allocation -/

/-- An exact capacity is granted only within P_STORE_BYTES (R240, R242). -/
theorem State.growExact_some {s : State} {need a d : Nat} (hg : s.growExact need = ⟨some a, d⟩) :
    a = need ∧ need ≤ s.cfg.storeBytes.toNat := by
  unfold State.growExact at hg
  split at hg
  · cases hg
  · split at hg
    · cases hg; exact ⟨rfl, by omega⟩
    · cases hg

/-- R31. -/
theorem onDgram_stream {p : Transport} (hp : p = .stream) {w : Nat} (v : BitVec w) : onDgram p v = 0 := by subst hp; rfl

theorem State.a0_le_of_tokenArgOk {s : State} (hk : s.tokenArgOk = true) : s.a0 ≤ 8 := by
  simp only [State.tokenArgOk, Bool.and_eq_true, decide_eq_true_eq] at hk
  exact hk.1

theorem State.lengths_of_optionArgsOk {s : State} (hk : s.optionArgsOk = true) :
    s.a0 ≤ 65535 ∧ s.bytes1.length ≤ 65535 := by
  simp only [State.optionArgsOk, State.numberArgOk, Bool.and_eq_true, decide_eq_true_eq] at hk
  rw [State.bytes1_length]
  exact ⟨hk.1, hk.2.1⟩

namespace State.Inv

variable {s t : State} (h : s.Inv)

include h

/-! ### The message manager -/

/-- MSG_INIT's writes keep the invariant for any capacity within P_STORE_BYTES (R240). -/
theorem constructed (p : Transport) {a : Nat} (ha : a ≤ s.cfg.storeBytes.toNat) : (s.constructed p a).Inv :=
  State.inv_of_empty h.cfg_wf h.mem_wf rfl ((State.toNat_size (.inr ha)).trans_le ha) rfl rfl rfl rfl rfl rfl

/-- RESIZE's write: more capacity, within P_STORE_BYTES (R242). -/
theorem setAlloc {a : Nat} (hle : s.alloc.toNat ≤ a) (ha : a ≤ s.cfg.storeBytes.toNat) :
    ({ s with alloc := BitVec.ofNat 32 a } : State).Inv := by
  have hn := State.toNat_size (.inr ha)
  exact h.of_keepsBody {} h.mem_wf h.stream_zero h.hdr_size
    (hle.trans_eq hn.symm) (hn.trans_le ha) fun _ _ => h.iter_mem

theorem execMsgInit {p : Transport} (ht : Machine.execMsgInit p s = .next t) : t.Inv := by
  unfold Machine.execMsgInit at ht
  split at ht
  · cases ht; exact (h.constructed p (Nat.zero_le _)).finish _ _ _ _
  · split at ht
    · cases ht; exact (h.drawn _).raise _
    · next a d hg =>
      cases ht
      obtain ⟨rfl, ha⟩ := State.growExact_some hg
      exact ((h.drawn d).constructed p ha).finish _ _ _ _

theorem execClear (ht : Machine.execClear s = .next t) : t.Inv := by
  cases ht
  exact (State.inv_of_empty (s := { s.emptied with maxSize := s.arg0 }) h.cfg_wf h.mem_wf h.reserve h.alloc_store rfl rfl rfl
    rfl rfl rfl).finish _ _ _ _

theorem execResize (ht : Machine.execResize s = .next t) : t.Inv := by
  unfold Machine.execResize at ht
  split at ht
  · cases ht; exact h.finish _ _ _ _
  next hmore =>
  split at ht
  · cases ht; exact h.raise _
  split at ht
  · cases ht; exact (h.drawn _).raise _
  next a d hg =>
  cases ht
  obtain ⟨rfl, ha⟩ := State.growExact_some hg
  exact ((h.drawn d).setAlloc (Nat.le_of_not_le hmore) ha).finish _ _ _ _

theorem execSetType (ht : Machine.execSetType s = .next t) : t.Inv := by
  unfold Machine.execSetType at ht
  split at ht
  · cases ht; exact h.raise _
  · cases ht
    exact (h.setHeaderFields _ s.msgId fun hp => ⟨onDgram_stream hp _, (h.stream_zero hp).2⟩).withUnread
      (State.finish { s with hdrValid := false } 0 0 0 0)

theorem execSetCode (ht : Machine.execSetCode s = .next t) : t.Inv := by
  unfold Machine.execSetCode at ht
  split at ht
  · cases ht; exact h.raise _
  · cases ht; exact h.withUnread (State.finish { s with msgCode := BitVec.ofNat 8 s.a0, hdrValid := false } 0 0 0 0)

theorem execSetMid (ht : Machine.execSetMid s = .next t) : t.Inv := by
  unfold Machine.execSetMid at ht
  split at ht
  · cases ht; exact h.raise _
  · cases ht
    exact (h.setHeaderFields s.msgType _ fun hp => ⟨(h.stream_zero hp).1, onDgram_stream hp _⟩).withUnread
      (State.finish { s with hdrValid := false } 0 0 0 0)

/-! ### Commands that commit a body -/

/-- Another token before the stored options and payload (R251). -/
theorem soundBody_of_token (tok : List Byte) (ht : tok.length ≤ 8) : SoundBody (tok ++ s.rest) tok.length := by
  obtain ⟨os, p, -, ho, hr, -⟩ := h.body_ok
  rw [hr]; exact soundBody_append ht ho p

/-- The stored token before other options and another payload (R190 to R193). -/
theorem soundBody_of_options {os : List Opt} (ho : optsOk os) (p : List Byte) :
    SoundBody (s.token ++ rebuildRest os p) s.tkl.toNat := by
  have hl := State.token_length h.token_used
  have hb := soundBody_append (tok := s.token) (hl ▸ h.token_le) ho p
  rwa [hl] at hb


theorem execAddToken (ht : Machine.execAddToken s = .next t) : t.Inv := by
  unfold Machine.execAddToken at ht
  split at ht
  · cases ht; exact h.raise _
  next hargs =>
  split at ht
  · cases ht; exact h.raise _
  cases ht
  have hlen : s.bytes0.length ≤ 8 := s.bytes0_length.trans_le (State.a0_le_of_tokenArgOk (by simpa using hargs))
  have hb := soundBody_append (os := []) hlen ⟨.nil, nofun⟩ []
  rw [rebuildRest_nil, List.append_nil, State.bytes0_length] at hb
  exact h.commitBody hb _ _

theorem execUpdateToken (ht : Machine.execUpdateToken s = .next t) : t.Inv := by
  unfold Machine.execUpdateToken at ht
  split at ht
  · cases ht; exact h.raise _
  next hargs =>
  cases ht
  have hb := h.soundBody_of_token s.bytes0 (s.bytes0_length.trans_le (State.a0_le_of_tokenArgOk (by simpa using hargs)))
  rw [State.bytes0_length] at hb
  exact h.commitBody hb _ _

/-- R190 from the logical views on. -/
theorem insertSorted (hargs : s.optionArgsOk = true) {os : List Opt} (ho : optsOk os) (p : List Byte) :
    (s.insertSorted os p).Inv :=
  have ⟨hn, hv⟩ := State.lengths_of_optionArgsOk hargs
  h.commitBody (h.soundBody_of_options (optsOk_insertAt ho hn hv) p) _ _

theorem execInsertOption (ht : Machine.execInsertOption s = .next t) : t.Inv := by
  unfold Machine.execInsertOption at ht
  split at ht
  · cases ht; exact h.raise _
  next hargs =>
  obtain ⟨os, p, hc, rfl⟩ := State.withContents_next ht
  exact h.insertSorted (by simpa using hargs) (h.of_contents hc).1 p

theorem execAddOption (ht : Machine.execAddOption s = .next t) : t.Inv := by
  unfold Machine.execAddOption at ht
  split at ht
  · cases ht; exact h.raise _
  next hargs =>
  obtain ⟨os, p, hc, rfl⟩ := State.withContents_next ht
  split
  · exact h.raise _
  · exact h.insertSorted (by simpa using hargs) (h.of_contents hc).1 p

theorem execUpdateOption (ht : Machine.execUpdateOption s = .next t) : t.Inv := by
  unfold Machine.execUpdateOption at ht
  split at ht
  · cases ht; exact h.raise _
  next hargs =>
  obtain ⟨os, p, hc, rfl⟩ := State.withContents_next ht
  obtain ⟨ho, -⟩ := h.of_contents hc
  split
  · next j hj =>
    obtain ⟨-, hv⟩ := State.lengths_of_optionArgsOk (s := s) (by simpa using hargs)
    exact h.commitBody (h.soundBody_of_options (optsOk_set_firstWith ho hj hv) p) _ _
  · exact h.insertSorted (by simpa using hargs) ho p

theorem execRemoveOption (ht : Machine.execRemoveOption s = .next t) : t.Inv := by
  unfold Machine.execRemoveOption at ht
  split at ht
  · cases ht; exact h.raise _
  obtain ⟨os, p, hc, rfl⟩ := State.withContents_next ht
  split
  · exact h.raise _
  · next j _ => exact h.commitBody (h.soundBody_of_options (optsOk_eraseIdx (h.of_contents hc).1 j) p) _ _

/-- The marker and bytes after a body without a payload make a sound body (R220). -/
theorem soundBody_of_payload {os : List Opt} (hc : s.contents = some (os, [])) {p : List Byte} (hp : p ≠ []) :
    SoundBody (s.body ++ 0xFF :: p) s.tkl.toNat := by
  obtain ⟨ho, hr⟩ := h.of_contents hc
  have hb := h.soundBody_of_options ho p
  have hold : s.rest = encodeOptions os := by rw [hr, rebuildRest_eq, payloadPart_nil, List.append_nil]
  rwa [rebuildRest_eq, payloadPart_of_ne hp, ← hold, ← List.append_assoc, State.token_append_rest] at hb

theorem execAddData (ht : Machine.execAddData s = .next t) : t.Inv := by
  unfold Machine.execAddData at ht
  split at ht
  · cases ht; exact h.raise _
  obtain ⟨os, p, hc, rfl⟩ := State.withContents_next ht
  split
  · exact h.raise _
  next hnone =>
  obtain rfl : p = [] := by simpa using hnone
  split
  · exact h.finish _ _ _ _
  next hcount =>
  have hp : s.bytes0 ≠ [] := by rwa [Ne, ← List.length_eq_zero_iff, State.bytes0_length]
  exact h.commitBody (h.soundBody_of_payload hc hp) _ _

/-! ### Commands that only report -/

theorem execFrameSize {p : Transport} (ht : Machine.execFrameSize p s = .next t) : t.Inv := by
  unfold Machine.execFrameSize State.reportHeader at ht
  split at ht
  · cases ht; exact h.raise _
  · cases ht
    split
    · exact h.raise _
    · exact h.finish _ _ _ _

theorem execGetData (ht : Machine.execGetData s = .next t) : t.Inv := by
  obtain ⟨os, p, -, rfl⟩ := State.withContents_next ht
  split <;> exact h.finish _ _ _ _

/-! ### Any command -/

/-- Every command keeps the invariant. The wire rows are no commands, and no step runs one (log 9). -/
theorem exec {i : Instr} (hi : i.place = .command) (ht : Machine.exec i s = .next t) : t.Inv := by
  cases i with
  | nop => cases ht; exact h.finish _ _ _ _
  | msgInit p => exact h.execMsgInit ht
  | clear => exact h.execClear ht
  | resize => exact h.execResize ht
  | setType => exact h.execSetType ht
  | setCode => exact h.execSetCode ht
  | setMid => exact h.execSetMid ht
  | hdrSize p => cases ht; exact h.finish _ _ _ _
  | frameSize p => exact h.execFrameSize ht
  | parse p => exact h.execParse ht
  | encodeHdr => exact h.execEncodeHdr ht
  | addToken => exact h.execAddToken ht
  | updateToken => exact h.execUpdateToken ht
  | addOption => exact h.execAddOption ht
  | insertOption => exact h.execInsertOption ht
  | updateOption => exact h.execUpdateOption ht
  | removeOption => exact h.execRemoveOption ht
  | iterInit => exact h.execIterInit ht
  | iterNext => exact h.execIterNext ht
  | addData => exact h.execAddData ht
  | getData => exact h.execGetData ht
  | wireDgramHeader | wireStreamHeaderS0to12 | wireStreamHeaderS13 | wireStreamHeaderS14 | wireStreamHeaderS15
  | wireOptionControl | wirePayloadMarker => cases hi

end State.Inv

theorem classCommand_place {n : Nat} {f : Transport → Instr} (h : classCommand n = some f) (p : Transport) :
    (f p).place = .command := by
  unfold classCommand at h
  split at h <;> cases h <;> rfl

theorem plainCommand_place {n : Nat} {i : Instr} (h : plainCommand n = some i) : i.place = .command := by
  unfold plainCommand at h
  split at h <;> cases h <;> rfl

/-- A word written to CMD selects a command, never a wire row (R120, R121). -/
theorem decodeCommand_place {w : Word} {i : Instr} (h : decodeCommand w = .ok i) : i.place = .command := by
  unfold decodeCommand at h
  split at h
  · cases h
  split at h
  · next f hf => cases h; exact classCommand_place hf _
  split at h
  · next j hj =>
    split at h
    · cases h
    · cases h; exact plainCommand_place hj
  · cases h

/-! ### Host accesses -/

namespace State.Inv

variable {s t : State} (h : s.Inv)

include h

theorem runCommand {w : Word} (ht : s.runCommand w = .next t) : t.Inv := by
  have hcmd : ({ s with cmd := w } : State).Inv := h.withUnread { s with cmd := w }
  unfold State.runCommand at ht
  split at ht
  · next i hi => exact hcmd.exec (decodeCommand_place hi) ht
  · cases ht; exact hcmd.raise _

theorem writeReg {off : Nat} {w : Word} (ht : s.writeReg off w = .next t) : t.Inv := by
  unfold State.writeReg at ht
  split at ht
  · exact h.runCommand ht
  · cases ht; exact h.withUnread { s with arg0 := w }
  · cases ht; exact h.withUnread { s with arg1 := w }
  · cases ht; exact h

/-- INBUF lies below the store, so a write of it leaves the body alone (R71, R72). -/
theorem writeInbuf (i : Nat) (b : Byte) : (s.writeInbuf i b).Inv := by
  unfold State.writeInbuf
  split
  · next hi =>
    obtain ⟨-, -, -, hinbuf⟩ := h.cfg_wf
    have hbelow := inbuf_below_store (hi.trans_le hinbuf)
    exact h.setMem (Memory.write_wf h.mem_wf _ b) fun j _ => Memory.read_write_other _ b (by omega)
  · exact h

theorem hostWrite {size : AccessSize} {a : Nat} {w : Word} (ht : s.hostWrite size a w = .next t) : t.Inv := by
  unfold State.hostWrite at ht
  split at ht
  · cases ht
  split at ht
  · exact h.writeReg ht
  · cases ht; exact h
  · cases ht; exact h.writeInbuf _ _
  · cases ht; exact h

theorem returns {v : Word} (ht : s.returns v = .next t) : t.Inv := by
  cases ht; exact h.withUnread { s with rdata := v }

theorem readStore {o : Nat} (ht : s.readStore o = .next t) : t.Inv := by
  unfold State.readStore at ht
  split at ht
  · exact h.returns ht
  split at ht
  · exact (h.drawn _).returns ht
  · exact h.returns ht

theorem hostRead {size : AccessSize} {a : Nat} (ht : s.hostRead size a = .next t) : t.Inv := by
  unfold State.hostRead at ht
  split at ht
  · cases ht
  split at ht
  · split at ht
    · exact h.returns ht
    · cases ht
  · exact h.returns ht
  · exact h.returns ht
  · exact h.readStore ht

/-- R301. -/
theorem hardReset : s.hardReset.Inv :=
  State.inv_of_empty h.cfg_wf .nil rfl (Nat.zero_le _) rfl rfl rfl rfl rfl rfl

theorem serve {x : HostAccess} (ht : Machine.serve x s = .next t) : t.Inv := by
  cases x with
  | read size a => exact h.hostRead ht
  | write size a w => exact h.hostWrite ht
  | reset => cases ht; exact h.hardReset

theorem step (ht : Machine.step s = .next t) : t.Inv := by
  unfold Machine.step at ht
  split at ht
  · cases ht; exact h
  · next rest _ =>
    have hs : ({ s with host := rest } : State).Inv := h.withUnread { s with host := rest }
    exact hs.serve ht

end State.Inv

end Sys2Proof.Machine

/-- Settles O14: the invariant is a rule per kind of update, and each command and host access is one of those. -/
theorem everyStepKeepsTheInvariant : Obligations.EveryStepKeepsTheInvariant := fun _ _ h ht => h.step ht
end

section
/-! PROOF. What a command can do to the message, as a rule per kind: it fails (60_exceptions R273), keeps the message, or commits
another one (43_message_manager R230); and which token, options and payload each body command commits. -/

namespace Sys2Proof.Machine

/-! ### Failing -/

/-- A command's failure (R273): a code other than OK, and draws that the allocator may have used up (log 16). -/
def State.Failed (s t : State) : Prop := ∃ c d, c ≠ .ok ∧ t = (s.drawn d).raise c

theorem State.failed_raise (s : State) {c : Completion} (hc : c ≠ .ok) : s.Failed (s.raise c) := ⟨c, s.draws, hc, rfl⟩

theorem State.Failed.status_ne {s t : State} (hf : s.Failed t) : t.status ≠ .ok := by
  obtain ⟨c, d, hc, rfl⟩ := hf
  exact hc

/-- A check before the rest of a command: it fails, or the rest answers. -/
theorem State.failed_or_of_guard {s t : State} {b : Prop} [Decidable b] {c : Completion} {r : Result} (hc : c ≠ .ok)
    (ht : (if b then .next (s.raise c) else r) = .next t) : s.Failed t ∨ (¬b ∧ r = .next t) := by
  split at ht
  · cases ht; exact .inl (s.failed_raise hc)
  · exact .inr ⟨‹_›, ht⟩

/-- A check of operands, as the commands write it. -/
theorem State.failed_or_of_check {s t : State} {b : Bool} {c : Completion} {r : Result} (hc : c ≠ .ok)
    (ht : (if !b then .next (s.raise c) else r) = .next t) : s.Failed t ∨ (b = true ∧ r = .next t) := by
  simpa using State.failed_or_of_guard hc ht

/-! ### Keeping the message -/

/-- The message, its committed header and their bytes in the store are those of s. -/
structure State.KeepsMessage (s t : State) : Prop where
  proto : t.proto = s.proto := by rfl
  maxHdr : t.maxHdr = s.maxHdr := by rfl
  hdrSize : t.hdrSize = s.hdrSize := by rfl
  hdrValid : t.hdrValid = s.hdrValid := by rfl
  msgType : t.msgType = s.msgType := by rfl
  tkl : t.tkl = s.tkl := by rfl
  msgCode : t.msgCode = s.msgCode := by rfl
  msgId : t.msgId = s.msgId := by rfl
  used : t.used = s.used := by rfl
  epoch : t.epoch = s.epoch := by rfl
  store : ∀ x, storeBase ≤ x → t.mem.read x = s.mem.read x := by intros; rfl

theorem State.Failed.keepsMessage {s t : State} (hf : s.Failed t) : s.KeepsMessage t := by
  obtain ⟨c, d, -, rfl⟩ := hf
  exact {}

section
variable {s t : State} (k : s.KeepsMessage t)
include k

theorem State.KeepsMessage.memRead_eq (o n : Nat) : t.memRead o n = s.memRead o n :=
  State.readBytes_congr_read k.epoch fun _ _ => k.store _ (by omega)

theorem State.KeepsMessage.contents_eq : t.contents = s.contents := by
  rw [State.contents, State.contents, State.rest, State.rest, State.body, State.body, k.memRead_eq, k.maxHdr, k.used, k.tkl]

/-- The committed header matches as before (R28). -/
theorem State.KeepsMessage.headerMatches (hm : s.HeaderMatches) : t.HeaderMatches := by
  have hframe : t.frame = s.frame := by rw [State.frame, State.frame, k.memRead_eq, k.maxHdr, k.hdrSize, k.used]
  rw [State.HeaderMatches, hframe, k.proto, k.hdrSize, k.hdrValid, k.msgType, k.tkl, k.msgCode, k.msgId, k.used]
  exact hm

end

/-! ### Committing a message -/

/-- The message with the given token, options and payload is sound and committed (R41, R230), with some results. -/
structure State.Commits (s : State) (tok : List Byte) (os : List Opt) (p : List Byte) (t : State) : Prop where
  token_le : tok.length ≤ 8
  sorted : optsOk os
  size : (tok ++ rebuildRest os p).length ≤ s.limit
  committed : ∃ a d r0 r1, t = ((s.drawn d).putBody (tok ++ rebuildRest os p) tok.length a).finish r0 r1 0 0

/-- CommitBody of a sound message fails or commits it (R230). -/
theorem State.failed_or_commits (s : State) {tok : List Byte} {os : List Opt} (htok : tok.length ≤ 8) (hos : optsOk os)
    (p : List Byte) (r0 r1 : Nat) :
    s.Failed (s.commitBody (tok ++ rebuildRest os p) tok.length r0 r1) ∨
      s.Commits tok os p (s.commitBody (tok ++ rebuildRest os p) tok.length r0 r1) := by
  rcases s.commitBody_cases (tok ++ rebuildRest os p) tok.length r0 r1 with
    ⟨-, he⟩ | ⟨-, d, -, he⟩ | ⟨hl, a, d, -, he⟩
  · exact .inl (he ▸ s.failed_raise (by decide))
  · exact .inl ⟨_, d, by decide, he⟩
  · exact .inr ⟨htok, hos, hl, a, d, r0, r1, he⟩

section
variable {s t : State} {tok p : List Byte} {os : List Opt} (hc : s.Commits tok os p t)
include hc

theorem State.Commits.hdrValid : t.hdrValid = false := by
  obtain ⟨a, d, r0, r1, rfl⟩ := hc.committed
  rfl

theorem State.Commits.itValid : t.itValid = false := by
  obtain ⟨a, d, r0, r1, rfl⟩ := hc.committed
  rfl

theorem State.Commits.body_eq : t.body = tok ++ rebuildRest os p := by
  obtain ⟨a, d, r0, r1, rfl⟩ := hc.committed
  rw [State.finish_body]
  exact State.putBody_body (hc.size.trans_lt s.limit_lt) _ _

theorem State.Commits.tkl_eq : t.tkl.toNat = tok.length := by
  obtain ⟨a, d, r0, r1, rfl⟩ := hc.committed
  exact toNat_tkl hc.token_le

theorem State.Commits.token_eq : t.token = tok := by
  rw [State.token, hc.body_eq, hc.tkl_eq, List.take_left]

theorem State.Commits.contents_eq : t.contents = some (os, p) := by
  rw [State.contents, State.rest, hc.body_eq, hc.tkl_eq, List.drop_left, decodeOptions_rebuildRest hc.sorted]

end

/-! ### The option commands, ADD_TOKEN, UPDATE_TOKEN and ADD_DATA -/

/-- The options with the first entry of number n replaced by (n, v), or (n, v) inserted where there is none (R192). -/
def replaceOrInsert (os : List Opt) (n : Nat) (v : List Byte) : List Opt :=
  match firstWith os n with
  | some j => os.set j (n, v)
  | none => insertAt os (insertPos os n) n v

theorem replaceOrInsert_of_some {os : List Opt} {n j : Nat} (hj : firstWith os n = some j) (v : List Byte) :
    replaceOrInsert os n v = os.set j (n, v) := by simp [replaceOrInsert, hj]

theorem replaceOrInsert_of_none {os : List Opt} {n : Nat} (hj : firstWith os n = none) (v : List Byte) :
    replaceOrInsert os n v = insertAt os (insertPos os n) n v := by simp [replaceOrInsert, hj]

/-- ADD_TOKEN (R250). -/
theorem execAddToken_cases {s t : State} (ht : execAddToken s = .next t) :
    s.Failed t ∨ (s.used = 0 ∧ s.Commits s.bytes0 [] [] t) := by
  rcases State.failed_or_of_check (by decide) ht with hf | ⟨hargs, ht⟩
  · exact .inl hf
  rcases State.failed_or_of_guard (by decide) ht with hf | ⟨hused, ht⟩
  · exact .inl hf
  cases ht
  have hlen : s.bytes0.length ≤ 8 := s.bytes0_length.trans_le (State.a0_le_of_tokenArgOk hargs)
  have hcommit := s.failed_or_commits hlen (os := []) ⟨.nil, nofun⟩ [] s.a0 0
  rw [rebuildRest_nil, List.append_nil, State.bytes0_length] at hcommit
  exact hcommit.imp id fun hc => ⟨not_not.mp hused, hc⟩

section
variable {s t : State} (h : s.Inv)
include h

/-- CommitBody of the stored token with other options and another payload (R190 to R193). -/
theorem State.Inv.failed_or_commits {os : List Opt} (hos : optsOk os) (p : List Byte) (r0 r1 : Nat) :
    s.Failed (s.commitBody (s.token ++ rebuildRest os p) s.tkl.toNat r0 r1) ∨
      s.Commits s.token os p (s.commitBody (s.token ++ rebuildRest os p) s.tkl.toNat r0 r1) := by
  have hl := State.token_length h.token_used
  rw [← hl]
  exact s.failed_or_commits (hl.trans_le h.token_le) hos p r0 r1

/-- R190 from the logical views on. -/
theorem State.Inv.insertSorted_cases (hargs : s.optionArgsOk = true) {os : List Opt} (hos : optsOk os) (p : List Byte) :
    s.Failed (s.insertSorted os p) ∨
      s.Commits s.token (insertAt os (insertPos os s.a0) s.a0 s.bytes1) p (s.insertSorted os p) :=
  have ⟨hn, hv⟩ := State.lengths_of_optionArgsOk hargs
  h.failed_or_commits (optsOk_insertAt hos hn hv) p _ _

/-- UPDATE_TOKEN (R251). -/
theorem State.Inv.execUpdateToken_cases {os : List Opt} {p : List Byte} (hc : s.contents = some (os, p))
    (ht : Machine.execUpdateToken s = .next t) : s.Failed t ∨ s.Commits s.bytes0 os p t := by
  obtain ⟨hos, hrest⟩ := h.of_contents hc
  rcases State.failed_or_of_check (by decide) ht with hf | ⟨hargs, ht⟩
  · exact .inl hf
  cases ht
  have hlen : s.bytes0.length ≤ 8 := s.bytes0_length.trans_le (State.a0_le_of_tokenArgOk hargs)
  have hcommit := s.failed_or_commits hlen hos p s.a0 0
  rwa [State.bytes0_length, ← hrest] at hcommit

/-- INSERT_OPTION (R190). -/
theorem State.Inv.execInsertOption_cases {os : List Opt} {p : List Byte} (hc : s.contents = some (os, p))
    (ht : Machine.execInsertOption s = .next t) :
    s.Failed t ∨ s.Commits s.token (insertAt os (insertPos os s.a0) s.a0 s.bytes1) p t := by
  rcases State.failed_or_of_check (by decide) ht with hf | ⟨hargs, ht⟩
  · exact .inl hf
  rw [State.withContents_some hc] at ht
  cases ht
  exact h.insertSorted_cases hargs (h.of_contents hc).1 p

/-- ADD_OPTION (R191). -/
theorem State.Inv.execAddOption_cases {os : List Opt} {p : List Byte} (hc : s.contents = some (os, p))
    (ht : Machine.execAddOption s = .next t) :
    s.Failed t ∨ (p = [] ∧ s.Commits s.token (insertAt os (insertPos os s.a0) s.a0 s.bytes1) [] t) := by
  rcases State.failed_or_of_check (by decide) ht with hf | ⟨hargs, ht⟩
  · exact .inl hf
  rw [State.withContents_some hc] at ht
  cases ht
  split
  · exact .inl (s.failed_raise (by decide))
  next hnone =>
  obtain rfl : p = [] := by simpa using hnone
  exact (h.insertSorted_cases hargs (h.of_contents hc).1 []).imp id fun hcommit => ⟨rfl, hcommit⟩

/-- UPDATE_OPTION (R192): the first entry of the number is replaced, or the option inserted. -/
theorem State.Inv.execUpdateOption_cases {os : List Opt} {p : List Byte} (hc : s.contents = some (os, p))
    (ht : Machine.execUpdateOption s = .next t) :
    s.Failed t ∨ s.Commits s.token (replaceOrInsert os s.a0 s.bytes1) p t := by
  obtain ⟨hos, -⟩ := h.of_contents hc
  rcases State.failed_or_of_check (by decide) ht with hf | ⟨hargs, ht⟩
  · exact .inl hf
  rw [State.withContents_some hc] at ht
  cases ht
  cases hj : firstWith os s.a0 with
  | none => rw [replaceOrInsert_of_none hj]; exact h.insertSorted_cases hargs hos p
  | some j =>
    rw [replaceOrInsert_of_some hj]
    exact h.failed_or_commits (optsOk_set_firstWith hos hj (State.lengths_of_optionArgsOk hargs).2) p _ _

/-- REMOVE_OPTION (R193). -/
theorem State.Inv.execRemoveOption_cases {os : List Opt} {p : List Byte} (hc : s.contents = some (os, p))
    (ht : Machine.execRemoveOption s = .next t) :
    s.Failed t ∨ ∃ j, firstWith os s.a0 = some j ∧ s.Commits s.token (os.eraseIdx j) p t := by
  rcases State.failed_or_of_check (by decide) ht with hf | ⟨-, ht⟩
  · exact .inl hf
  rw [State.withContents_some hc] at ht
  cases ht
  cases hj : firstWith os s.a0 with
  | none => exact .inl (s.failed_raise (by decide))
  | some j =>
    exact (h.failed_or_commits (optsOk_eraseIdx (h.of_contents hc).1 j) p _ _).imp id fun hcommit => ⟨j, rfl, hcommit⟩

/-- ADD_DATA (R220): an empty payload changes nothing, another one is stored after the options. -/
theorem State.Inv.execAddData_cases {os : List Opt} {p : List Byte} (hc : s.contents = some (os, p))
    (ht : Machine.execAddData s = .next t) :
    s.Failed t ∨ (p = [] ∧ ((s.a0 = 0 ∧ t = s.finish 0 0 0 0) ∨ (s.a0 ≠ 0 ∧ s.Commits s.token os s.bytes0 t))) := by
  rcases State.failed_or_of_check (by decide) ht with hf | ⟨-, ht⟩
  · exact .inl hf
  rw [State.withContents_some hc] at ht
  cases ht
  split
  · exact .inl (s.failed_raise (by decide))
  next hnone =>
  obtain rfl : p = [] := by simpa using hnone
  split
  next hzero => exact .inr ⟨rfl, .inl ⟨hzero, rfl⟩⟩
  next hcount =>
  obtain ⟨hos, hrest⟩ := h.of_contents hc
  have hp : s.bytes0 ≠ [] := by rwa [Ne, ← List.length_eq_zero_iff, State.bytes0_length]
  have hbody : s.body ++ 0xFF :: s.bytes0 = s.token ++ rebuildRest os s.bytes0 := by
    rw [← State.token_append_rest, hrest, rebuildRest_eq, rebuildRest_eq, payloadPart_nil, payloadPart_of_ne hp]
    simp
  rw [hbody]
  exact (h.failed_or_commits hos s.bytes0 _ _).imp id fun hcommit => ⟨rfl, .inr ⟨hcount, hcommit⟩⟩

end

end Sys2Proof.Machine
end

section
/-! PROOF. Every command's effect on the message, one of eight kinds, and what it makes of the status flags (10_state R47). -/

namespace Sys2Proof.Machine

open Sys2Proof.Spec

/-! ### The commands outside CommitBody -/

theorem State.reportHeader_keepsMessage (s : State) (p : Transport) (b : List Byte) :
    s.KeepsMessage (s.reportHeader p b) ∧ (s.reportHeader p b).itValid = s.itValid := by
  unfold State.reportHeader
  split <;> exact ⟨{}, rfl⟩

/-- No header fails to encode with OK. -/
theorem hdrEncode_ne_ok {p : Transport} {ty : BitVec 2} {tkl : BitVec 4} {code : Byte} {mid : BitVec 16} {n : Nat} :
    hdrEncode p ty tkl code mid n ≠ .error .ok := by
  cases p with
  | dgram => nofun
  | stream => simp only [hdrEncode]; split <;> nofun

/-- No header fails to decode with OK. -/
theorem hdrDecode_ne_ok {m : Nat} {c : Bool} {p : Transport} {b : List Byte} : hdrDecode m c p b ≠ .error .ok := by
  cases p <;> simp only [hdrDecode] <;> repeat' split
  all_goals nofun

section
variable {s t : State}

/-- FRAME_SIZE writes results alone (R151). -/
theorem execFrameSize_keepsMessage {p : Transport} (ht : execFrameSize p s = .next t) :
    s.KeepsMessage t ∧ t.itValid = s.itValid := by
  unfold execFrameSize at ht
  split at ht <;> cases ht
  · exact ⟨{}, rfl⟩
  · exact s.reportHeader_keepsMessage p _

/-- RESIZE writes ALLOC and results alone (R242). -/
theorem execResize_keepsMessage (ht : execResize s = .next t) : s.KeepsMessage t ∧ t.itValid = s.itValid := by
  unfold execResize at ht
  split at ht
  · cases ht; exact ⟨{}, rfl⟩
  split at ht
  · cases ht; exact ⟨{}, rfl⟩
  split at ht <;> cases ht <;> exact ⟨{}, rfl⟩

/-- GET_DATA writes results alone (R221). -/
theorem execGetData_keepsMessage (ht : execGetData s = .next t) : s.KeepsMessage t ∧ t.itValid = s.itValid := by
  obtain ⟨os, p, -, rfl⟩ := State.withContents_next ht
  split <;> exact ⟨{}, rfl⟩

/-- An option control byte moves the iterator alone (R201). -/
theorem execWireOptionControl_keepsMessage {d l : BitVec 4} (ht : execWireOptionControl d l s = .next t) :
    s.KeepsMessage t ∧ t.itValid = s.itValid := by
  unfold execWireOptionControl at ht
  split at ht
  · cases ht; exact ⟨{}, rfl⟩
  split at ht <;> cases ht <;> exact ⟨{}, rfl⟩

/-- The marker writes results alone (R201). -/
theorem execWirePayloadMarker_keepsMessage (ht : execWirePayloadMarker s = .next t) :
    s.KeepsMessage t ∧ t.itValid = s.itValid := by
  unfold execWirePayloadMarker at ht
  split at ht <;> cases ht <;> exact ⟨{}, rfl⟩

/-- ITER_NEXT moves the iterator alone (R201). -/
theorem execIterNext_keepsMessage (ht : execIterNext s = .next t) : s.KeepsMessage t ∧ t.itValid = s.itValid := by
  unfold execIterNext at ht
  split at ht
  · cases ht; exact ⟨{}, rfl⟩
  split at ht
  · cases ht; exact ⟨{}, rfl⟩
  split at ht <;> cases ht <;> exact ⟨{}, rfl⟩

/-- What SET_TYPE, SET_CODE and SET_MID leave of the message (R243 to R245): a stale header, the same iterator and contents. -/
structure State.SetsHeaderField (s t : State) : Prop where
  hdrValid : t.hdrValid = false
  itValid : t.itValid = s.itValid
  contents : t.contents = s.contents

/-- A checked write of header fields: it fails, or leaves the header stale and the iterator and contents as they were. -/
theorem State.failed_or_setsHeaderField {b : Prop} [Decidable b] {u : State}
    (ht : (if b then .next (s.raise .badArgument) else .next (u.headerFieldChanged.finish 0 0 0 0) : Result) = .next t)
    (hit : u.itValid = s.itValid) (hc : u.contents = s.contents) :
    s.Failed t ∨ s.SetsHeaderField t := by
  refine (State.failed_or_of_guard (by decide) ht).imp id ?_
  rintro ⟨-, ⟨⟩⟩
  exact ⟨rfl, hit, by rw [State.finish_contents, State.headerFieldChanged_contents, hc]⟩

theorem execSetType_cases (ht : execSetType s = .next t) : s.Failed t ∨ s.SetsHeaderField t :=
  State.failed_or_setsHeaderField ht rfl (State.contents_congr rfl rfl rfl rfl rfl)

theorem execSetCode_cases (ht : execSetCode s = .next t) : s.Failed t ∨ s.SetsHeaderField t :=
  State.failed_or_setsHeaderField ht rfl (State.contents_congr rfl rfl rfl rfl rfl)

theorem execSetMid_cases (ht : execSetMid s = .next t) : s.Failed t ∨ s.SetsHeaderField t :=
  State.failed_or_setsHeaderField ht rfl (State.contents_congr rfl rfl rfl rfl rfl)

/-- What MSG_INIT and CLEAR leave (R240, R241): no header, no iterator and no body. -/
structure State.Empties (t : State) : Prop where
  hdrValid : t.hdrValid = false
  itValid : t.itValid = false
  used : t.used = 0

theorem State.contents_of_used_zero {t : State} (hu : t.used = 0) : t.contents = some ([], []) := by
  have hrest : t.rest = [] := List.eq_nil_of_length_eq_zero (by rw [State.rest_length, hu]; exact Nat.zero_sub _)
  rw [State.contents, hrest]
  rfl

theorem execMsgInit_cases {p : Transport} (ht : execMsgInit p s = .next t) : s.Failed t ∨ t.Empties := by
  unfold execMsgInit at ht
  split at ht
  · cases ht; exact .inr ⟨rfl, rfl, rfl⟩
  split at ht
  · next d _ => cases ht; exact .inl ⟨_, d, by decide, rfl⟩
  · cases ht; exact .inr ⟨rfl, rfl, rfl⟩

theorem execClear_empties (ht : execClear s = .next t) : t.Empties := by
  cases ht; exact ⟨rfl, rfl, rfl⟩

/-- ENCODE_HDR fails or stores the encoded header before the body (R153). -/
theorem execEncodeHdr_cases (ht : execEncodeHdr s = .next t) :
    s.Failed t ∨ ∃ r r0 r1 r2,
      hdrEncode s.proto s.msgType s.tkl s.msgCode s.msgId (s.used.toNat - s.tkl.toNat) = .ok r ∧
        r.length ≤ s.maxHdr.toNat ∧ t = (s.putHeader r).finish r0 r1 r2 0 := by
  unfold execEncodeHdr at ht
  split at ht
  next c he =>
    cases ht
    refine .inl (s.failed_raise ?_)
    rintro rfl
    exact hdrEncode_ne_ok he
  next r hr =>
  refine (State.failed_or_of_guard (by decide) ht).imp id ?_
  rintro ⟨hfit, ⟨⟩⟩
  exact ⟨r, _, _, _, hr, Nat.not_lt.mp hfit, rfl⟩

/-- A frame whose header decodes, which is whole, and whose options decode within the ceiling, is stored (R152). -/
structure State.Parses (s : State) (p : Transport) (h : Header) (payload : List Byte) (t : State) : Prop where
  header : s.readHeader p s.bytes0 = .ok h
  whole : frameTruncated p s.bytes0.length h = false
  contents : ∃ os, decodeOptions ((parsedBody p s.bytes0 h).drop h.tkl) = some (os, payload)
  size : (parsedBody p s.bytes0 h).length ≤ s.limit
  stored : ∃ a d r0 r1 r2,
    t = ((s.drawn d).putFrame p h (s.bytes0.take h.hs) (parsedBody p s.bytes0 h) a).finish r0 r1 r2 payload.length

/-- PARSE fails or stores the frame (R152). -/
theorem execParse_cases {p : Transport} (ht : execParse p s = .next t) : s.Failed t ∨ ∃ h payload, s.Parses p h payload t := by
  rcases State.failed_or_of_check (by decide) ht with hf | ⟨-, ht⟩
  · exact .inl hf
  split at ht
  next c he =>
    cases ht
    refine .inl (s.failed_raise ?_)
    rintro rfl
    exact hdrDecode_ne_ok he
  next h hd =>
  cases ht
  unfold State.parseBody
  split
  · exact .inl (s.failed_raise (by decide))
  next hwhole =>
  dsimp only
  split
  · exact .inl (s.failed_raise (by decide))
  next os payload hopts =>
  split
  · exact .inl (s.failed_raise (by decide))
  next hsize =>
  split
  · next d _ => exact .inl ⟨_, d, by decide, rfl⟩
  next a d _ =>
  exact .inr ⟨h, payload, hd, by simpa using hwhole, ⟨os, hopts⟩, Nat.not_lt.mp hsize, a, d, _, _, _, rfl⟩

end

/-! ### Every command -/

/-- The kinds of effect a command has on the message, by what it does to the flags (R47). -/
inductive State.Effect (s : State) : Instr → State → Prop
  | failed {i : Instr} {t : State} : s.Failed t → s.Effect i t
  | kept {i : Instr} {t : State} : ¬ChangesBody i s → i ∉ [Instr.encodeHdr, .iterInit, .setType, .setCode, .setMid] →
      s.KeepsMessage t ∧ t.itValid = s.itValid → s.Effect i t
  | iterStarted {t : State} : s.KeepsMessage t → t.itValid = true → s.Effect .iterInit t
  | fieldSet {i : Instr} {t : State} : i ∈ [Instr.setType, .setCode, .setMid] → s.SetsHeaderField t → s.Effect i t
  | emptied {i : Instr} {t : State} : (i = .clear ∨ ∃ p, i = .msgInit p) → t.Empties → s.Effect i t
  | committed {i : Instr} {t : State} {tok p : List Byte} {os : List Opt} : BodyCommand i → ChangesBody i s →
      s.Commits tok os p t → (i = .addData → p ≠ []) → (i ≠ .addData → present s = some (decide (p ≠ []))) → s.Effect i t
  | headerStored {t : State} {r : List Byte} {r0 r1 r2 : Nat} :
      hdrEncode s.proto s.msgType s.tkl s.msgCode s.msgId (s.used.toNat - s.tkl.toNat) = .ok r →
      r.length ≤ s.maxHdr.toNat → t = (s.putHeader r).finish r0 r1 r2 0 → s.Effect .encodeHdr t
  | frameStored {t : State} {p : Transport} {h : Header} {payload : List Byte} :
      s.Parses p h payload t → s.Effect (.parse p) t

theorem present_of_contents {s : State} {os : List Opt} {p : List Byte} (hc : s.contents = some (os, p)) :
    present s = some (decide (p ≠ [])) := by rw [present, hc]; rfl

/-- Every command has one of the effects. -/
theorem State.Inv.exec_effect {s t : State} (h : s.Inv) {i : Instr} (ht : Machine.exec i s = .next t) : s.Effect i t := by
  obtain ⟨os, p, hc, -⟩ := h.body_ok
  have hp := present_of_contents hc
  have commit {i : Instr} {tok : List Byte} {os' : List Opt} (hi : BodyCommand i) (hn : i ≠ .addData) (hb : ChangesBody i s)
      (hcases : s.Failed t ∨ s.Commits tok os' p t) : s.Effect i t :=
    hcases.elim .failed fun hcommit => .committed hi hb hcommit (absurd · hn) fun _ => hp
  cases i with
  | nop => cases ht; exact .kept (by simp [ChangesBody]) (by simp) ⟨{}, rfl⟩
  | msgInit p => exact (execMsgInit_cases ht).elim .failed (.emptied (.inr ⟨p, rfl⟩))
  | clear => exact .emptied (.inl rfl) (execClear_empties ht)
  | resize => exact .kept (by simp [ChangesBody]) (by simp) (execResize_keepsMessage ht)
  | setType => exact (execSetType_cases ht).elim .failed (.fieldSet (by simp))
  | setCode => exact (execSetCode_cases ht).elim .failed (.fieldSet (by simp))
  | setMid => exact (execSetMid_cases ht).elim .failed (.fieldSet (by simp))
  | hdrSize p => cases ht; exact .kept (by simp [ChangesBody]) (by simp) ⟨{}, rfl⟩
  | frameSize p => exact .kept (by simp [ChangesBody]) (by simp) (execFrameSize_keepsMessage ht)
  | parse p => exact (execParse_cases ht).elim .failed fun ⟨_, _, hparse⟩ => .frameStored hparse
  | encodeHdr =>
    exact (execEncodeHdr_cases ht).elim .failed fun ⟨_, _, _, _, hr, hfit, ht⟩ => .headerStored hr hfit ht
  | addToken =>
    rcases execAddToken_cases ht with hf | ⟨hu, hcommit⟩
    · exact .failed hf
    · exact .committed (by simp [BodyCommand]) (by simp [ChangesBody]) hcommit nofun fun _ =>
        present_of_contents (State.contents_of_used_zero hu)
  | updateToken =>
    exact commit (by simp [BodyCommand]) nofun (by simp [ChangesBody]) (h.execUpdateToken_cases hc ht)
  | addOption =>
    exact commit (by simp [BodyCommand]) nofun (by simp [ChangesBody])
      ((h.execAddOption_cases hc ht).imp id fun ⟨hnil, hcommit⟩ => hnil ▸ hcommit)
  | insertOption =>
    exact commit (by simp [BodyCommand]) nofun (by simp [ChangesBody]) (h.execInsertOption_cases hc ht)
  | updateOption =>
    exact commit (by simp [BodyCommand]) nofun (by simp [ChangesBody]) (h.execUpdateOption_cases hc ht)
  | removeOption =>
    rcases h.execRemoveOption_cases hc ht with hf | ⟨j, -, hcommit⟩
    · exact .failed hf
    · exact commit (by simp [BodyCommand]) nofun (by simp [ChangesBody]) (.inr hcommit)
  | iterInit => cases ht; exact .iterStarted {} rfl
  | iterNext => exact .kept (by simp [ChangesBody]) (by simp) (execIterNext_keepsMessage ht)
  | addData =>
    rcases h.execAddData_cases hc ht with hf | ⟨-, ⟨hzero, rfl⟩ | ⟨hcount, hcommit⟩⟩
    · exact .failed hf
    · exact .kept (by simpa [ChangesBody, State.a0] using hzero) (by simp) ⟨{}, rfl⟩
    · refine .committed (by simp [BodyCommand]) (.inr (.inr (.inr ⟨rfl, hcount⟩))) hcommit (fun _ => ?_) (absurd rfl)
      rwa [Ne, ← List.length_eq_zero_iff, State.bytes0_length]
  | getData => exact .kept (by simp [ChangesBody]) (by simp) (execGetData_keepsMessage ht)
  | wireDgramHeader v t k c m => cases ht; exact .kept (by simp [ChangesBody]) (by simp) (s.reportHeader_keepsMessage _ _)
  | wireStreamHeaderS0to12 sel k c => cases ht; exact .kept (by simp [ChangesBody]) (by simp) (s.reportHeader_keepsMessage _ _)
  | wireStreamHeaderS13 k e c => cases ht; exact .kept (by simp [ChangesBody]) (by simp) (s.reportHeader_keepsMessage _ _)
  | wireStreamHeaderS14 k e c => cases ht; exact .kept (by simp [ChangesBody]) (by simp) (s.reportHeader_keepsMessage _ _)
  | wireStreamHeaderS15 k e c => cases ht; exact .kept (by simp [ChangesBody]) (by simp) (s.reportHeader_keepsMessage _ _)
  | wireOptionControl d l => exact .kept (by simp [ChangesBody]) (by simp) (execWireOptionControl_keepsMessage ht)
  | wirePayloadMarker => exact .kept (by simp [ChangesBody]) (by simp) (execWirePayloadMarker_keepsMessage ht)

end Sys2Proof.Machine
end

section
/-! PROOF. A committed header matches the message (10_state R28): decoding inverts encoding (40_header_codec R142), a frame's bytes
decode to the header they were stored under, and every step keeps the match. -/

namespace Sys2Proof.Machine

open Sys2Proof.Spec

/-! ### Headers and their bytes -/

theorem be32_be32bytes {v : Nat} (h : v < 4294967296) :
    be32 (BitVec.ofNat 8 (v / 16777216)) (BitVec.ofNat 8 (v / 65536)) (BitVec.ofNat 8 (v / 256)) (BitVec.ofNat 8 v) = v := by
  simp only [be32, BitVec.toNat_ofNat]; omega

theorem extDec_fourBytes (w x y z : Byte) : extDec 15 [w, x, y, z] = be32 w x y z + 65805 := rfl

/-- The value and the size of a stream header's form (R104, R105). -/
theorem extDec_of_extEncHdr {v : Nat} {f : BitVec 4 × List Byte} (h : extEncHdr v = some f) :
    extDec f.1 f.2 = v ∧ f.2.length = extLen f.1 := by
  unfold extEncHdr at h
  split at h
  · exact ⟨(extDec_of_extEnc h).1, extEnc_length h⟩
  next hv =>
  split at h
  · cases h
    refine ⟨?_, rfl⟩
    rw [be32bytes, extDec_fourBytes, be32_be32bytes (by omega)]; omega
  · cases h

/-- The header that four datagram bytes and a frame length stand for (R140). -/
def dgramHeader (b0 b1 b2 b3 : Byte) (n : Nat) : Header where
  hs := 4
  tkl := (loNibble b0).toNat
  ver := b0.extractLsb' 6 2
  type := b0.extractLsb' 4 2
  code := some b1
  mid := BitVec.ofNat 16 (be16 b2 b3)
  body := n - 4
  total := n

/-- The header that a stream frame's first byte, extension bytes and code stand for (R140). -/
def streamHeader (b0 : Byte) (ext : List Byte) (code : Byte) : Header where
  hs := 2 + ext.length
  tkl := (loNibble b0).toNat
  ver := 0
  type := 0
  code := some code
  mid := 0
  body := (loNibble b0).toNat + extDec (hiNibble b0) ext
  total := 2 + ext.length + (loNibble b0).toNat + extDec (hiNibble b0) ext

/-- Decoding a datagram's header without a version check (R140). -/
theorem hdrDecode_dgram {m : Nat} {b0 b1 b2 b3 : Byte} {bs : List Byte} (htkl : (loNibble b0).toNat ≤ 8)
    (hm : (b0 :: b1 :: b2 :: b3 :: bs).length ≤ m) :
    hdrDecode m false .dgram (b0 :: b1 :: b2 :: b3 :: bs) = .ok (dgramHeader b0 b1 b2 b3 (b0 :: b1 :: b2 :: b3 :: bs).length) := by
  simp only [hdrDecode]
  rw [if_neg (by omega), if_neg (by simp), if_neg (by omega)]
  rfl

/-- A datagram header that decodes, byte by byte. -/
theorem exists_of_hdrDecode_dgram {m : Nat} {c : Bool} {b : List Byte} {h : Header} (hd : hdrDecode m c .dgram b = .ok h) :
    ∃ b0 b1 b2 b3 bs, b = b0 :: b1 :: b2 :: b3 :: bs ∧ (loNibble b0).toNat ≤ 8 ∧ h = dgramHeader b0 b1 b2 b3 b.length := by
  unfold hdrDecode at hd
  split at hd
  · cases hd
  next b0 bs =>
  split at hd
  · cases hd
  next htkl =>
  dsimp only at hd
  split at hd
  · next b1 b2 b3 bs =>
    split at hd
    · cases hd
    split at hd
    · cases hd
    cases hd
    exact ⟨b0, b1, b2, b3, bs, rfl, Nat.not_lt.mp htkl, rfl⟩
  · cases hd

/-- Decoding a stream frame's header (R140). -/
theorem hdrDecode_stream {m : Nat} {c : Bool} {b0 code : Byte} {ext bs : List Byte} (htkl : (loNibble b0).toNat ≤ 8)
    (hext : ext.length = extLen (hiNibble b0)) (hm : (streamHeader b0 ext code).total ≤ m) :
    hdrDecode m c .stream (b0 :: (ext ++ code :: bs)) = .ok (streamHeader b0 ext code) := by
  rw [streamHeader] at hm
  dsimp only at hm
  have htake : (ext ++ code :: bs).take (extLen (hiNibble b0)) = ext := by rw [← hext, List.take_left]
  have hcode : (b0 :: (ext ++ code :: bs))[2 + ext.length - 1]? = some code := by
    rw [show 2 + ext.length - 1 = ext.length + 1 by omega]; simp
  simp only [hdrDecode, htake]
  rw [if_neg (by omega), if_neg (by simp; omega), ← hext, if_neg (by omega), hcode]
  rfl

/-- A stream header that decodes from a whole frame, part by part. -/
theorem exists_of_hdrDecode_stream {m : Nat} {c : Bool} {b : List Byte} {h : Header} (hd : hdrDecode m c .stream b = .ok h)
    (hwhole : h.total ≤ b.length) :
    ∃ b0 ext code bs, b = b0 :: (ext ++ code :: bs) ∧ (loNibble b0).toNat ≤ 8 ∧ ext.length = extLen (hiNibble b0) ∧
      h = streamHeader b0 ext code := by
  have hok := hd
  unfold hdrDecode at hd
  split at hd
  · cases hd
  next b0 bs =>
  split at hd
  · cases hd
  next htkl =>
  dsimp only at hd
  split at hd
  · cases hd
  split at hd
  · cases hd
  next hm =>
  have hlen : extLen (hiNibble b0) < bs.length := by
    cases hd
    simp only [List.length_cons] at hwhole
    omega
  have hext : (bs.take (extLen (hiNibble b0))).length = extLen (hiNibble b0) := by rw [List.length_take]; omega
  have hcode : (b0 :: bs)[2 + extLen (hiNibble b0) - 1]? = some bs[extLen (hiNibble b0)] := by
    rw [show 2 + extLen (hiNibble b0) - 1 = extLen (hiNibble b0) + 1 by omega]; simp [hlen]
  refine ⟨b0, bs.take (extLen (hiNibble b0)), bs[extLen (hiNibble b0)], bs.drop (extLen (hiNibble b0) + 1), ?_,
    Nat.not_lt.mp htkl, hext, ?_⟩
  · rw [List.getElem_cons_drop, List.take_append_drop]
  · cases hd
    rw [streamHeader, hext, hcode]

/-- The bytes a whole frame takes decode, under no ceiling but their own number and without a version check, to the same header. -/
theorem hdrDecode_frame {m : Nat} {c : Bool} {p : Transport} {b : List Byte} {h : Header} (hd : hdrDecode m c p b = .ok h)
    (hwhole : frameTruncated p b.length h = false) :
    hdrDecode (frameLength p b.length h) false p (b.take (frameLength p b.length h)) = .ok h := by
  cases p with
  | dgram =>
    obtain ⟨b0, b1, b2, b3, bs, rfl, htkl, rfl⟩ := exists_of_hdrDecode_dgram hd
    rw [frameLength, List.take_length]
    exact hdrDecode_dgram htkl le_rfl
  | stream =>
    have htotal : h.total ≤ b.length := by simpa [frameTruncated] using hwhole
    obtain ⟨b0, ext, code, bs, rfl, htkl, hext, rfl⟩ := exists_of_hdrDecode_stream hd htotal
    obtain ⟨k, hk⟩ : ∃ k, (streamHeader b0 ext code).total = ext.length + (k + 1) + 1 :=
      ⟨(loNibble b0).toNat + extDec (hiNibble b0) ext, by simp only [streamHeader]; omega⟩
    have htake : (b0 :: (ext ++ code :: bs)).take (streamHeader b0 ext code).total = b0 :: (ext ++ code :: bs.take k) := by
      rw [hk, List.take_succ_cons, List.take_length_add_append, List.take_succ_cons]
    rw [frameLength, htake]
    exact hdrDecode_stream htkl hext le_rfl

/-- What a decoded header says of its frame: the sizes add up, and the code stands in the header. -/
theorem hdrDecode_fields {m : Nat} {c : Bool} {p : Transport} {b : List Byte} {h : Header} (hd : hdrDecode m c p b = .ok h)
    (hwhole : frameTruncated p b.length h = false) :
    h.total = frameLength p b.length h ∧ h.hs + h.body = h.total ∧ h.total ≤ b.length ∧ h.code = some (h.code.getD 0) ∧
      h.type = onDgram p h.type ∧ h.mid = onDgram p h.mid := by
  cases p with
  | dgram =>
    obtain ⟨b0, b1, b2, b3, bs, rfl, -, rfl⟩ := exists_of_hdrDecode_dgram hd
    exact ⟨rfl, by simp only [dgramHeader, List.length_cons]; omega, le_rfl, rfl, rfl, rfl⟩
  | stream =>
    have htotal : h.total ≤ b.length := by simpa [frameTruncated] using hwhole
    obtain ⟨b0, ext, code, bs, -, -, -, rfl⟩ := exists_of_hdrDecode_stream hd htotal
    exact ⟨rfl, by simp only [streamHeader]; omega, htotal, rfl, rfl, rfl⟩

theorem dgramByte_fields (ty : BitVec 2) (tkl : BitVec 4) :
    loNibble (Config.version ++ ty ++ tkl) = tkl ∧ (Config.version ++ ty ++ tkl).extractLsb' 4 2 = ty := by
  revert ty tkl; decide

theorem ofNat_be16_extractLsb' (m : BitVec 16) : BitVec.ofNat 16 (be16 (m.extractLsb' 8 8) (m.extractLsb' 0 8)) = m := by
  apply BitVec.eq_of_toNat_eq
  have := m.isLt
  simp only [be16, BitVec.toNat_ofNat, BitVec.extractLsb'_toNat, Nat.shiftRight_eq_div_pow]
  omega

/-- Decoding inverts encoding (R140, R142): an encoded header before a body with a token decodes to what it was made of. -/
theorem hdrDecode_hdrEncode {p : Transport} {ty : BitVec 2} {tkl : BitVec 4} {code : Byte} {mid : BitVec 16} {n : Nat}
    {r body : List Byte} (he : hdrEncode p ty tkl code mid n = .ok r) (htkl : tkl.toNat ≤ 8)
    (hbody : body.length = tkl.toNat + n) :
    ∃ h, hdrDecode (r.length + body.length) false p (r ++ body) = .ok h ∧ h.hs = r.length ∧ h.tkl = tkl.toNat ∧
      h.code = some code ∧ h.type = onDgram p ty ∧ h.mid = onDgram p mid ∧ h.body = body.length ∧
      h.total = r.length + body.length := by
  cases p with
  | dgram =>
    cases he
    obtain ⟨hlo, hty⟩ := dgramByte_fields ty tkl
    refine ⟨_, hdrDecode_dgram (by rwa [hlo]) (by simp; omega), rfl, congrArg BitVec.toNat hlo, rfl, hty,
      ofNat_be16_extractLsb' mid, ?_, ?_⟩
    all_goals simp [dgramHeader] <;> omega
  | stream =>
    simp only [hdrEncode] at he
    split at he
    · cases he
    next sel ext hf =>
    cases he
    obtain ⟨hval, hlen⟩ := extDec_of_extEncHdr hf
    dsimp only at hval hlen
    have htotal : (streamHeader (packNibbles sel tkl) ext code).total =
        (packNibbles sel tkl :: ext ++ [code]).length + body.length := by
      simp [streamHeader, hval, hbody]; omega
    refine ⟨streamHeader (packNibbles sel tkl) ext code, ?_, ?_, ?_, rfl, rfl, rfl, ?_, htotal⟩
    · rw [List.append_assoc, List.cons_append]
      exact hdrDecode_stream (by rwa [loNibble_packNibbles]) (by rwa [hiNibble_packNibbles]) htotal.le
    all_goals simp [streamHeader, hval, hbody]
    omega

/-! ### The stored frame -/

theorem State.readBytes_add (s : State) (a m n : Nat) : s.readBytes a (m + n) = s.readBytes a m ++ s.readBytes (a + m) n := by
  refine List.ext_getElem (by simp) fun i h1 h2 => ?_
  rw [List.getElem_append]
  split
  · simp
  · next hi =>
    simp only [State.readBytes_length] at hi
    simp only [State.getElem_readBytes, State.readBytes_length]
    congr 1; omega

/-- The frame is the header bytes right before the body, and the body. -/
theorem State.frame_eq {s : State} {hdr : List Byte} (hsize : s.hdrSize.toNat = hdr.length)
    (hle : hdr.length ≤ s.maxHdr.toNat)
    (hread : ∀ i (hi : i < hdr.length), s.mem.read (storeBase + (s.maxHdr.toNat - hdr.length) + i) = some hdr[i]) :
    s.frame = hdr ++ s.body := by
  rw [State.frame, State.memRead, State.readBytes_add, hsize, State.readBytes_eq hread, State.body, State.memRead]
  congr 2; omega

/-- The header stored lies before the body (R153). -/
theorem State.putHeader_keepsBody {s : State} {r : List Byte} (hfit : r.length ≤ s.maxHdr.toNat) : s.KeepsBody (s.putHeader r) :=
  { read := fun _ _ => Memory.read_writeBytes_outside _ _ _ (.inr (by omega)) }

/-- ENCODE_HDR leaves a committed header that matches (R28, R153). -/
theorem State.Inv.putHeader_headerMatches {s : State} (h : s.Inv) {r : List Byte}
    (hr : hdrEncode s.proto s.msgType s.tkl s.msgCode s.msgId (s.used.toNat - s.tkl.toNat) = .ok r)
    (hfit : r.length ≤ s.maxHdr.toNat) : (s.putHeader r).HeaderMatches := by
  intro _
  have hsize : (s.putHeader r).hdrSize.toNat = r.length := by
    rw [State.putHeader_hdrSize, BitVec.toNat_ofNat, Nat.mod_eq_of_lt (by omega)]
  have hframe : (s.putHeader r).frame = r ++ s.body := by
    rw [← (State.putHeader_keepsBody hfit).body_eq]
    exact State.frame_eq hsize hfit fun i hi => Memory.read_writeBytes_inside _ _ _ hi
  have htype : onDgram s.proto s.msgType = s.msgType ∧ onDgram s.proto s.msgId = s.msgId := by
    cases hp : s.proto with
    | dgram => exact ⟨rfl, rfl⟩
    | stream => exact ⟨(h.stream_zero hp).1.symm, (h.stream_zero hp).2.symm⟩
  obtain ⟨hdr, hd, hhs, htkl, hcode, hty, hmid, hbody, htotal⟩ :=
    hdrDecode_hdrEncode (body := s.body) hr h.token_le (by have := h.token_used; rw [State.body_length]; omega)
  rw [State.body_length] at hd hbody htotal
  rw [hframe, hsize]
  exact ⟨hdr, hd, hhs, htkl, hcode, hty.trans htype.1, hmid.trans htype.2, hbody, htotal⟩

section
variable (s : State) (p : Transport) {h : Header} {hdr body : List Byte} (a : Nat)
  (hused : (s.putFrame p h hdr body a).used.toNat = body.length)
include hused

/-- The body PARSE stores reads back (R152). -/
theorem State.putFrame_body : (s.putFrame p h hdr body a).body = body := by
  rw [State.body, State.memRead, hused]
  exact State.readBytes_eq fun i hi => Memory.read_storeForget_memWrite _ _ body hi

/-- The frame PARSE stores reads back (R152). -/
theorem State.putFrame_frame (hlen : hdr.length = h.hs) (hfit : h.hs ≤ (hdrReserve p).toNat)
    (hsize : (s.putFrame p h hdr body a).hdrSize.toNat = h.hs) : (s.putFrame p h hdr body a).frame = hdr ++ body := by
  rw [State.frame_eq (hsize.trans hlen.symm) (hlen.trans_le hfit) fun i hi => ?_, State.putFrame_body s p a hused]
  rw [State.putFrame_mem, State.putFrame_maxHdr, Memory.storeForget, Memory.read_dropFrom_below _ (by omega), Memory.memWrite,
    Memory.read_writeBytes_outside _ _ _ (.inl (by omega)), hlen]
  exact Memory.read_writeBytes_inside _ _ _ hi

end

/-- PARSE leaves a committed header that matches (R28, R152). -/
theorem State.Parses.headerMatches {s t : State} {p : Transport} {h : Header} {payload : List Byte}
    (hp : s.Parses p h payload t) : t.HeaderMatches := by
  obtain ⟨hd, hwhole, -, hlimit, a, d, r0, r1, r2, rfl⟩ := hp
  refine State.KeepsMessage.headerMatches 
    (s := (s.drawn d).putFrame p h (s.bytes0.take h.hs) (parsedBody p s.bytes0 h) a) {} fun _ => ?_
  obtain ⟨htotal, hsum, hle, hcode, htype, hmid⟩ := hdrDecode_fields hd hwhole
  obtain ⟨-, hfit⟩ := hdrDecode_hs hd
  have hres := hdrReserve_le p
  have hhdr : (s.bytes0.take h.hs).length = h.hs := by rw [List.length_take]; omega
  have hbody : (parsedBody p s.bytes0 h).length = h.body := by
    rw [parsedBody, List.length_drop, List.length_take, ← htotal]; omega
  have hjoin : s.bytes0.take h.hs ++ parsedBody p s.bytes0 h = s.bytes0.take (frameLength p s.bytes0.length h) := by
    have hheader : s.bytes0.take h.hs = (s.bytes0.take h.total).take h.hs := by
      rw [List.take_take, min_eq_left (by omega)]
    rw [parsedBody, ← htotal, hheader, List.take_append_drop]
  have hsize : (BitVec.ofNat 3 h.hs).toNat = h.hs := by rw [BitVec.toNat_ofNat, Nat.mod_eq_of_lt (by omega)]
  have hused : (BitVec.ofNat 32 (parsedBody p s.bytes0 h).length).toNat = h.body := (State.toNat_size (.inl hlimit)).trans hbody
  have htkl := toNat_tkl (parsedBody_token hd hwhole).1
  have hdecode := hdrDecode_frame hd hwhole
  rw [← hjoin, ← htotal, ← hsum] at hdecode
  rw [State.putFrame_frame (s.drawn d) p a (hused.trans hbody.symm) hhdr hfit hsize]
  simp only [State.putFrame_hdrSize, State.putFrame_used, State.putFrame_tkl, hsize, hused, htkl]
  exact ⟨h, hdecode, rfl, rfl, hcode, htype, hmid, rfl, hsum.symm⟩

/-! ### Every step -/

/-- INBUF lies below the store, so a write of it leaves the message alone (R71, R72). -/
theorem State.Inv.writeInbuf_keepsMessage {s : State} (h : s.Inv) (i : Nat) (b : Byte) : s.KeepsMessage (s.writeInbuf i b) := by
  unfold State.writeInbuf
  split
  · next hi =>
    obtain ⟨-, -, -, hinbuf⟩ := h.cfg_wf
    have hbelow := inbuf_below_store (hi.trans_le hinbuf)
    exact { store := fun x hx => Memory.read_write_other _ b (by omega) }
  · exact {}

section
variable {s t : State} (h : s.Inv) (hm : s.HeaderMatches)
include h hm

/-- Every command keeps the match: it fails, leaves the message, clears HDR_VALID, or stores a header (R28, R47). -/
theorem State.Inv.exec_headerMatches {i : Instr} (ht : Machine.exec i s = .next t) : t.HeaderMatches := by
  cases h.exec_effect ht with
  | failed hf => exact hf.keepsMessage.headerMatches hm
  | kept _ _ hk => exact hk.1.headerMatches hm
  | iterStarted hk _ => exact hk.headerMatches hm
  | fieldSet _ hs => exact fun hv => absurd hv (by simp [hs.hdrValid])
  | emptied _ he => exact fun hv => absurd hv (by simp [he.hdrValid])
  | committed _ _ hc => exact fun hv => absurd hv (by simp [hc.hdrValid])
  | headerStored hr hfit he =>
    subst he
    exact State.KeepsMessage.headerMatches {} (h.putHeader_headerMatches hr hfit)
  | frameStored hp => exact hp.headerMatches

theorem State.Inv.writeReg_headerMatches {off : Nat} {w : Word} (ht : s.writeReg off w = .next t) : t.HeaderMatches := by
  unfold State.writeReg at ht
  split at ht
  · unfold State.runCommand at ht
    have hk : s.KeepsMessage { s with cmd := w } := {}
    split at ht
    · exact (h.withUnread { s with cmd := w }).exec_headerMatches (hk.headerMatches hm) ht
    · cases ht; exact State.KeepsMessage.headerMatches {} hm
  all_goals cases ht; exact State.KeepsMessage.headerMatches {} hm

theorem State.Inv.hostWrite_headerMatches {size : AccessSize} {a : Nat} {w : Word} (ht : s.hostWrite size a w = .next t) :
    t.HeaderMatches := by
  unfold State.hostWrite at ht
  split at ht
  · cases ht
  split at ht
  · exact h.writeReg_headerMatches hm ht
  · cases ht; exact hm
  · cases ht; exact (h.writeInbuf_keepsMessage _ _).headerMatches hm
  · cases ht; exact hm

end

/-- A host read changes RDATA and the draw counter alone (R70 to R72). -/
theorem State.hostRead_keepsMessage {s t : State} {size : AccessSize} {a : Nat} (ht : s.hostRead size a = .next t) :
    s.KeepsMessage t := by
  unfold State.hostRead at ht
  split at ht
  · cases ht
  split at ht
  · split at ht <;> cases ht
    exact {}
  · cases ht; exact {}
  · cases ht; exact {}
  · unfold State.readStore at ht
    split at ht
    · cases ht; exact {}
    · split at ht <;> cases ht <;> exact {}

theorem State.Inv.step_headerMatches {s t : State} (h : s.Inv) (hm : s.HeaderMatches) (ht : Machine.step s = .next t) :
    t.HeaderMatches := by
  unfold Machine.step at ht
  split at ht
  · cases ht; exact hm
  next x rest _ =>
  have hs : ({ s with host := rest } : State).Inv := h.withUnread { s with host := rest }
  have hms : ({ s with host := rest } : State).HeaderMatches := State.KeepsMessage.headerMatches {} hm
  cases x with
  | read size a => exact (State.hostRead_keepsMessage ht).headerMatches hms
  | write size a w => exact hs.hostWrite_headerMatches hms ht
  | reset => cases ht; exact nofun

end Sys2Proof.Machine

/-- Settles O17: a command keeps the message with its header, clears HDR_VALID, or stores a header that decodes to the message. -/
theorem committedHeaderKeepsMatching : Obligations.CommittedHeaderKeepsMatching := fun _ _ h hm ht => h.step_headerMatches hm ht
end

section
/-! PROOF. The register window of the host (10_state R21 to R23): what a word read returns, and which offsets take a write. -/

namespace Sys2Proof.Machine

open Sys2Proof.Spec

/-! ### Register values -/

theorem ofBool_toNat (b : Bool) : (BitVec.ofBool b).toNat = bit b := by cases b <;> rfl

theorem ofBool_setWidth (b : Bool) : (BitVec.ofBool b).setWidth 32 = BitVec.ofNat 32 (bit b) := by cases b <;> rfl

theorem dataPresent_eq_decide (p : List Byte) : dataPresent p = decide (p ≠ []) := by cases p <;> rfl

/-- STATUS by R270's numbers. -/
theorem Completion.number_setWidth (c : Completion) : c.number.setWidth 32 = BitVec.ofNat 32 (codeNumber c) := by cases c <;> rfl

/-- CODE_CLASS by R46's ranges. -/
theorem codeClass_setWidth (c : Byte) : (codeClass c).setWidth 32 = BitVec.ofNat 32 (classNumber c) := by
  revert c; decide

theorem State.dataOff_eq (s : State) (p : List Byte) :
    s.dataOff p = if p = [] then 0 else s.maxHdr.toNat + s.used.toNat - p.length := by
  by_cases hp : p = [] <;> simp [State.dataOff, dataPresent, hp]

/-- Fields side by side: the value of each at its bits. -/
theorem toNat_append_eq_add {m n : Nat} (x : BitVec m) (y : BitVec n) : (x ++ y).toNat = x.toNat * 2 ^ n + y.toNat := by
  rw [BitVec.toNat_append, ← Nat.shiftLeft_add_eq_or_of_lt y.isLt, Nat.shiftLeft_eq]

theorem State.msgHdr_eq (s : State) : s.msgHdr =
    BitVec.ofNat 32 (s.msgType.toNat + 16 * s.tkl.toNat + 256 * s.msgCode.toNat + 65536 * s.msgId.toNat) := by
  apply BitVec.eq_of_toNat_eq
  have := s.msgHdr.isLt
  simp only [State.msgHdr, toNat_append_eq_add, BitVec.ofNat_eq_ofNat, BitVec.toNat_ofNat, Nat.zero_mod] at this ⊢
  omega

theorem State.msgCtrl_eq (s : State) (present : Bool) : s.msgCtrl present =
    BitVec.ofNat 32 (bit (decide (s.proto = .stream)) + 2 * s.maxHdr.toNat + 16 * s.hdrSize.toNat + 256 * bit s.hdrValid +
      512 * bit present + 1024 * bit s.itValid) := by
  apply BitVec.eq_of_toNat_eq
  have := (s.msgCtrl present).isLt
  simp only [State.msgCtrl, toNat_append_eq_add, ofBool_toNat, BitVec.ofNat_eq_ofNat, BitVec.toNat_ofNat, Nat.zero_mod] at this ⊢
  omega

/-! ### The register window -/

/-- A word access at an aligned offset below 0x1000 is one of the register window (R70, R77). -/
theorem accessOk_register {a : Nat} (hlt : a < 0x1000) (hal : a % 4 = 0) : accessOk .word a = true ∧ windowOf a = .registers := by
  have hw : windowOf a = .registers := if_pos hlt
  simp [accessOk, hw, hal]

/-- Every entry of R21's map reads as its value. -/
theorem State.readReg_registerMap {s : State} {os : List Opt} {pl : List Byte} (hc : s.contents = some (os, pl)) :
    ∀ e ∈ registerMap s pl, s.readReg e.1 = some (BitVec.ofNat 32 e.2) := by
  simp only [registerMap, List.cons_append, List.nil_append, List.forall_mem_cons, List.not_mem_nil, false_imp_iff,
    implies_true, and_true, State.readReg, hc, Option.map_some, BitVec.ofNat_toNat, BitVec.setWidth_eq, State.msgHdr_eq,
    State.msgCtrl_eq, dataPresent_eq_decide, State.dataOff_eq, Completion.number_setWidth, codeClass_setWidth, ofBool_setWidth]

/-- An offset that is none of R21's map reads as 0. -/
theorem State.readReg_of_not_mem {s : State} {pl : List Byte} {off : Nat}
    (hoff : off ∉ (registerMap s pl).map Prod.fst) : s.readReg off = some 0 := by
  simp only [registerMap, List.cons_append, List.nil_append, List.map_cons, List.map_nil, List.mem_cons, List.not_mem_nil,
    or_false, not_or] at hoff
  unfold State.readReg
  split <;> simp at hoff ⊢

/-- A word read in the register window returns what stands at its offset (R70). -/
theorem step_read_register {s : State} {rest : List HostAccess} {a v : Word} (hs : s.host = .read .word a :: rest)
    (hlt : a.toNat < 0x1000) (hal : a.toNat % 4 = 0)
    (hv : ({ s with host := rest } : State).readReg a.toNat = some v) :
    step s = .next { s with host := rest, rdata := v } := by
  obtain ⟨hok, hw⟩ := accessOk_register hlt hal
  simp [step, hs, serve, State.hostRead, hok, hw, hv, State.returns]

/-- A word write in the register window goes to the register at its offset (R70). -/
theorem step_write_register {s : State} {rest : List HostAccess} {a w : Word} (hs : s.host = .write .word a w :: rest)
    (hlt : a.toNat < 0x1000) (hal : a.toNat % 4 = 0) : step s = ({ s with host := rest } : State).writeReg a.toNat w := by
  obtain ⟨hok, hw⟩ := accessOk_register hlt hal
  simp [step, hs, serve, State.hostWrite, hok, hw]

/-- From offset 12 on no register takes a host write (R21). -/
theorem State.writeReg_ignored (s : State) {off : Nat} (h : 12 ≤ off) (w : Word) : s.writeReg off w = .next s := by
  unfold State.writeReg
  split
  · omega
  · omega
  · omega
  · rfl

end Sys2Proof.Machine

open Sys2Proof Sys2Proof.Machine

/-- Settles O23, entry by entry of the register map. -/
theorem registerReads : Obligations.RegisterReads := by
  intro s rest a os pl hs hlt hal hc
  have hc' : ({ s with host := rest } : State).contents = some (os, pl) :=
    (State.KeepsMessage.contents_eq (s := s) {}).trans hc
  refine ⟨fun v hv => step_read_register hs hlt hal (State.readReg_registerMap hc' _ hv), fun hv => ?_⟩
  refine step_read_register hs hlt hal (State.readReg_of_not_mem (pl := pl) fun hoff => ?_)
  obtain ⟨⟨_, v⟩, he, rfl⟩ := List.mem_map.mp hoff
  exact hv v he

/-- Settles O24: a write in the register window is one to the register at its offset. -/
theorem hostWrites : Obligations.HostWrites := by
  intro s rest a w
  refine ⟨?_, ?_, fun hs h12 hlt hal => ?_⟩
  · rintro hs rfl
    rw [step_write_register hs (by decide) (by decide)]
    rfl
  · rintro hs rfl
    rw [step_write_register hs (by decide) (by decide)]
    rfl
  · rw [step_write_register hs hlt hal, State.writeReg_ignored _ h12]

/-- Settles O5: a CMD write is one to the register at offset 0, which runs the command. -/
theorem stepRunsTheDecodedInstruction : Obligations.StepRunsTheDecodedInstruction := by
  refine ⟨fun s rest w i hs hi => ?_, fun s hs => by simp only [step, hs]⟩
  rw [step_write_register hs (by decide) (by decide)]
  change State.runCommand _ w = _
  rw [State.runCommand, hi]

end

section
/-! PROOF. What a successful mutation leaves of the logical message (41_option_codec R188, R194), and the table of the status flags
(10_state R47). -/

namespace Sys2Proof.Machine

open Sys2Proof.Spec

/-! ### The first entry of a number -/

theorem firstWith_eq_none_iff {os : List Opt} {n : Nat} : firstWith os n = none ↔ ∀ o ∈ os, o.1 ≠ n := by
  simp [firstWith]

/-- The index found is the first entry's of the number. -/
theorem firstWith_eq_some_iff {os : List Opt} {n j : Nat} :
    firstWith os n = some j ↔ ∃ o, os[j]? = some o ∧ o.1 = n ∧ ∀ o' ∈ os.take j, o'.1 ≠ n := by
  simp only [firstWith, List.findIdx?_eq_some_iff_getElem, decide_eq_true_eq, List.mem_take_iff_getElem]
  constructor
  · rintro ⟨hlt, hn, hfirst⟩
    refine ⟨os[j], List.getElem?_eq_getElem hlt, hn, ?_⟩
    rintro _ ⟨i, hi, rfl⟩
    exact hfirst i (by omega)
  · rintro ⟨o, ho, hn, hfirst⟩
    obtain ⟨hlt, rfl⟩ := List.getElem?_eq_some_iff.mp ho
    exact ⟨hlt, hn, fun i hi => hfirst _ ⟨i, by omega, rfl⟩⟩

theorem replaceOrInsert_of_first {os : List Opt} {n j : Nat} (hj : firstWith os n = some j) (v : List Byte) :
    replaceOrInsert os n v = os.take j ++ (n, v) :: os.drop (j + 1) := by
  obtain ⟨hlt, -, -⟩ := List.findIdx?_eq_some_iff_getElem.mp hj
  rw [replaceOrInsert_of_some hj, List.set_eq_take_append_cons_drop, if_pos hlt]

/-- A command that ends with OK did not fail. -/
theorem State.of_failed_or {s t : State} {P : Prop} (hok : t.status = .ok) (h : s.Failed t ∨ P) : P :=
  h.resolve_left fun hf => hf.status_ne hok

theorem present_congr {s t : State} (hc : t.contents = s.contents) : present t = present s := by rw [present, hc, present]

/-- The payload is part of the bytes decoded (R180). -/
theorem payload_length_le {r p : List Byte} {os : List Opt} (h : decodeOptions r = some (os, p)) : p.length ≤ r.length := by
  rw [(rebuildRest_of_decodeOptions h).1, rebuildRest_eq, List.length_append]
  by_cases hp : p = []
  · simp [hp]
  · rw [payloadPart_of_ne hp, List.length_cons]; omega

/-- PARSE reports the payload's length, and so whether there is one (R43, R152). -/
theorem State.Parses.present_eq {s t : State} {p : Transport} {h : Header} {payload : List Byte} (hp : s.Parses p h payload t) :
    present t = some (decide (t.res3 ≠ 0)) := by
  obtain ⟨hd, hwhole, ⟨os, hos⟩, hlimit, a, d, r0, r1, r2, rfl⟩ := hp
  have hbody := State.putFrame_body (s.drawn d) p (h := h) (hdr := s.bytes0.take h.hs) a (State.toNat_size (.inl hlimit))
  have htkl := toNat_tkl (parsedBody_token hd hwhole).1
  have hcontents : ((s.drawn d).putFrame p h (s.bytes0.take h.hs) (parsedBody p s.bytes0 h) a).contents = some (os, payload) := by
    rw [State.contents, State.rest, hbody, State.putFrame_tkl, htkl, hos]
  have hlen : payload.length < 4294967296 := by
    have hle := payload_length_le hos
    have hlt := s.limit_lt
    rw [List.length_drop] at hle
    omega
  have hres : BitVec.ofNat 32 payload.length = 0 ↔ payload = [] := by
    rw [← List.length_eq_zero_iff, ← BitVec.toNat_inj, BitVec.toNat_ofNat, Nat.mod_eq_of_lt hlen]
    rfl
  rw [present_of_contents ((State.finish_contents ..).trans hcontents), State.finish_res3, decide_eq_decide.mpr (not_congr hres)]

theorem not_changesBody_iff {i : Instr} {s : State} : ¬ChangesBody i s ↔
    i ∉ [Instr.clear, .addToken, .updateToken, .addOption, .insertOption, .updateOption, .removeOption] ∧
      (∀ p, i ≠ .msgInit p) ∧ (∀ p, i ≠ .parse p) ∧ ¬(i = .addData ∧ s.arg0.toNat ≠ 0) := by
  simp [ChangesBody]

theorem bodyCommand_kind {i : Instr} (hi : BodyCommand i) :
    i ∉ [Instr.encodeHdr, .iterInit, .setType, .setCode, .setMid, .clear] ∧ (∀ p, i ≠ .msgInit p) ∧ ∀ p, i ≠ .parse p := by
  simp only [BodyCommand, List.mem_cons, List.not_mem_nil, or_false] at hi
  rcases hi with rfl | rfl | rfl | rfl | rfl | rfl | rfl <;> simp

/-- A committed message and what its views show. -/
theorem State.Commits.views {s t : State} {tok p : List Byte} {os : List Opt} (hc : s.Commits tok os p t) :
    t.contents = some (os, p) ∧ t.token = tok := ⟨hc.contents_eq, hc.token_eq⟩

end Sys2Proof.Machine

open Sys2Proof Sys2Proof.Machine Sys2Proof.Spec

/-- Settles O47: a mutation that ends with OK commits its token, options and payload, which read back. -/
theorem mutationsActOnTheLogicalMessage : Obligations.MutationsActOnTheLogicalMessage := by
  intro s t os p h hc hok
  refine ⟨fun ht => ?insert, fun ht => ?add, fun ht => ?update, fun ht => ?remove, fun ht => ?token, fun ht => ?data⟩
  case insert => exact (State.of_failed_or hok (h.execInsertOption_cases hc ht)).views
  case add => exact (State.of_failed_or hok (h.execAddOption_cases hc ht)).2.views
  case update =>
    obtain ⟨hcontents, htoken⟩ := (State.of_failed_or hok (h.execUpdateOption_cases hc ht)).views
    refine ⟨htoken, fun hnone => ?_, fun j o ho hn hfirst => ?_⟩
    · rw [hcontents, replaceOrInsert_of_none (n := s.a0) (firstWith_eq_none_iff.mpr hnone)]
      rfl
    · rw [hcontents, replaceOrInsert_of_first (n := s.a0) (firstWith_eq_some_iff.mpr ⟨o, ho, hn, hfirst⟩)]
      rfl
  case remove =>
    obtain ⟨j, hj, hcommit⟩ := State.of_failed_or hok (h.execRemoveOption_cases hc ht)
    obtain ⟨o, ho, hn, hfirst⟩ := firstWith_eq_some_iff.mp hj
    obtain ⟨hcontents, htoken⟩ := hcommit.views
    exact ⟨htoken, j, o, ho, hn, hfirst, by rw [hcontents, List.eraseIdx_eq_take_drop_succ]⟩
  case token => exact (State.of_failed_or hok (h.execUpdateToken_cases hc ht)).views
  case data =>
    obtain ⟨rfl, ⟨hzero, rfl⟩ | ⟨-, hcommit⟩⟩ := State.of_failed_or hok (h.execAddData_cases hc ht)
    · have hempty : s.inRead 0 s.a0 = [] := by rw [hzero]; rfl
      exact ⟨(State.finish_contents ..).trans (hc.trans (by rw [← hempty]; rfl)), by rw [State.token, State.finish_body]; rfl⟩
    · exact hcommit.views

/-- Settles O60, by the kind of the command's effect on the message. -/
theorem flagsFollowTheTable : Obligations.FlagsFollowTheTable := by
  intro i s t h ht hok
  cases h.exec_effect ht with
  | failed hf => exact absurd hok hf.status_ne
  | kept hb hi hk =>
    obtain ⟨hkeep, hit⟩ := hk
    have hpresent : present t = present s := present_congr hkeep.contents_eq
    have hrows := not_changesBody_iff.mp hb
    simp_all [hkeep.hdrValid]
  | iterStarted hkeep hit =>
    have hpresent : present t = present s := present_congr hkeep.contents_eq
    simp [ChangesBody, hkeep.hdrValid, hit, hpresent]
  | fieldSet hi hs =>
    have hpresent : present t = present s := present_congr hs.contents
    have hrow : i = .setType ∨ i = .setCode ∨ i = .setMid := by simpa using hi
    rcases hrow with rfl | rfl | rfl <;> simp [ChangesBody, hs.hdrValid, hs.itValid, hpresent]
  | emptied hi he =>
    have hpresent : present t = some false := by rw [present, State.contents_of_used_zero he.used]; rfl
    rcases hi with rfl | ⟨p, rfl⟩ <;> simp [ChangesBody, he.hdrValid, he.itValid, hpresent]
  | committed hi hb hc hdata hother =>
    have hpresent := present_of_contents hc.contents_eq
    have hrow := bodyCommand_kind hi
    by_cases hadd : i = .addData
    · subst hadd
      have hcount : s.arg0.toNat ≠ 0 := by simpa [ChangesBody] using hb
      simp [ChangesBody, hcount, hc.hdrValid, hc.itValid, hpresent, hdata rfl]
    · have hsame : present t = present s := hpresent.trans (hother hadd).symm
      simp_all [hc.hdrValid, hc.itValid]
  | headerStored hr hfit he =>
    subst he
    simp [ChangesBody, present, (State.putHeader_keepsBody hfit).contents_eq]
  | frameStored hp =>
    have hflags : t.hdrValid = true ∧ t.itValid = false := by
      obtain ⟨a, d, r0, r1, r2, rfl⟩ := hp.stored
      exact ⟨rfl, rfl⟩
    simp [ChangesBody, hflags, hp.present_eq]
end

section
/-! PROOF. The host's three windows (20_memory R70 to R72, R77, R81): which accesses are refused, what a byte access of each
window answers, and that a read again returns the same value. -/

namespace Sys2Proof.Machine

open Sys2Proof.Spec

/-! ### Windows and sizes -/

theorem windowOf_registers {a : Nat} (h : a < 0x1000) : windowOf a = .registers := if_pos h

theorem windowOf_outside {a : Nat} (hlo : 0x1000 ≤ a) (hhi : a < 0x40000000) : windowOf a = .outside := by
  rw [windowOf, if_neg (Nat.not_lt.mpr hlo), inbufBase, if_pos hhi]

theorem windowOf_inbuf {a : Nat} (hlo : 0x40000000 ≤ a) (hhi : a < 0x80000000) : windowOf a = .inbuf := by
  rw [windowOf, if_neg (by omega), inbufBase, if_neg (Nat.not_lt.mpr hlo), storeBase, if_pos hhi]

theorem windowOf_store {a : Nat} (h : 0x80000000 ≤ a) : windowOf a = .store := by
  rw [windowOf, if_neg (by omega), inbufBase, if_neg (by omega), storeBase, if_neg (Nat.not_lt.mpr h)]

/-- The window of an address, by its range (R70 to R72). -/
theorem windowOf_cases (a : Nat) :
    (a < 0x1000 ∧ windowOf a = .registers) ∨ (0x1000 ≤ a ∧ a < 0x40000000 ∧ windowOf a = .outside) ∨
      (0x40000000 ≤ a ∧ a < 0x80000000 ∧ windowOf a = .inbuf) ∨ (0x80000000 ≤ a ∧ windowOf a = .store) := by
  rcases Nat.lt_or_ge a 0x1000 with h | hlo
  · exact .inl ⟨h, windowOf_registers h⟩
  rcases Nat.lt_or_ge a 0x40000000 with hhi | hlo'
  · exact .inr (.inl ⟨hlo, hhi, windowOf_outside hlo hhi⟩)
  rcases Nat.lt_or_ge a 0x80000000 with hhi | hge
  · exact .inr (.inr (.inl ⟨hlo', hhi, windowOf_inbuf hlo' hhi⟩))
  · exact .inr (.inr (.inr ⟨hge, windowOf_store hge⟩))

/-- R77 in the register window. -/
theorem accessOk_registers {a : Nat} (h : a < 0x1000) (size : AccessSize) :
    accessOk size a = true ↔ size = .word ∧ a % 4 = 0 := by
  simp [accessOk, windowOf_registers h]

/-- R77 in the INBUF and store windows. -/
theorem accessOk_bytes {a : Nat} (h : 0x40000000 ≤ a) (size : AccessSize) : accessOk size a = true ↔ size = .byte := by
  by_cases hs : a < 0x80000000
  · simp [accessOk, windowOf_inbuf h hs]
  · simp [accessOk, windowOf_store (Nat.le_of_not_lt hs)]

/-- A byte outside the windows reaches into none (R70). -/
theorem accessOk_outside {a : Nat} (hlo : 0x1000 ≤ a) (hhi : a < 0x40000000) : accessOk .byte a = true := by
  simp [accessOk, AccessSize.bytes, windowOf_outside hlo hhi]

/-! ### What a host access does in each window -/

section
variable {s : State} {rest : List HostAccess} {size : AccessSize} {a w : Word}

theorem step_read (hs : s.host = .read size a :: rest) : step s = ({ s with host := rest } : State).hostRead size a.toNat := by
  rw [step, hs]; rfl

theorem step_write (hs : s.host = .write size a w :: rest) :
    step s = ({ s with host := rest } : State).hostWrite size a.toNat w := by
  rw [step, hs]; rfl

end

section
variable (s : State) {size : AccessSize} {a : Nat} (w : Word)

theorem State.hostRead_refused (h : ¬accessOk size a = true) : s.hostRead size a = .refused .accessSize := by
  simp [State.hostRead, h]

theorem State.hostWrite_refused (h : ¬accessOk size a = true) : s.hostWrite size a w = .refused .accessSize := by
  simp [State.hostWrite, h]

variable (hok : accessOk size a = true)
include hok

theorem State.hostRead_registers (hw : windowOf a = .registers) :
    s.hostRead size a = (s.readReg a).elim (.fault .bodyMalformed) s.returns := by
  simp only [State.hostRead, hok, hw]
  cases s.readReg a <;> rfl

theorem State.hostRead_outside (hw : windowOf a = .outside) : s.hostRead size a = s.returns 0 := by
  simp [State.hostRead, hok, hw]

theorem State.hostRead_inbuf (hw : windowOf a = .inbuf) : s.hostRead size a = s.readInbuf (a - inbufBase) := by
  simp [State.hostRead, hok, hw]

theorem State.hostRead_store (hw : windowOf a = .store) : s.hostRead size a = s.readStore (a - storeBase) := by
  simp [State.hostRead, hok, hw]

theorem State.hostWrite_registers (hw : windowOf a = .registers) : s.hostWrite size a w = s.writeReg a w := by
  simp [State.hostWrite, hok, hw]

theorem State.hostWrite_outside (hw : windowOf a = .outside) : s.hostWrite size a w = .next s := by
  simp [State.hostWrite, hok, hw]

theorem State.hostWrite_inbuf (hw : windowOf a = .inbuf) :
    s.hostWrite size a w = .next (s.writeInbuf (a - inbufBase) (w.setWidth 8)) := by
  simp [State.hostWrite, hok, hw]

theorem State.hostWrite_store (hw : windowOf a = .store) : s.hostWrite size a w = .next s := by
  simp [State.hostWrite, hok, hw]

end

/-! ### Reads of the store -/

section
variable (s : State) (o : Nat)

theorem State.storeSpecified_iff : s.storeSpecified o = true ↔ StoreByteSpecified s o := by
  simp [State.storeSpecified, StoreByteSpecified]

theorem State.readStore_specified (h : StoreByteSpecified s o) : s.readStore o = s.returns ((s.storeByte o).setWidth 32) :=
  if_pos ((s.storeSpecified_iff o).mpr h)

theorem State.readStore_stale (h : ¬StoreByteSpecified s o) (ho : o < s.maxHdr.toNat + s.alloc.toNat) :
    s.readStore o = (s.drawn (s.draws + 1)).returns ((Config.staleByte s.draws).setWidth 32) :=
  (if_neg fun hs => h ((s.storeSpecified_iff o).mp hs)).trans (if_pos ho)

theorem State.readStore_beyond (h : ¬StoreByteSpecified s o) (ho : s.maxHdr.toNat + s.alloc.toNat ≤ o) :
    s.readStore o = s.returns 0 :=
  (if_neg fun hs => h ((s.storeSpecified_iff o).mp hs)).trans (if_neg (Nat.not_lt.mpr ho))

/-- A store read returns a value and may use up a draw (R72). -/
theorem State.readStore_changes : ∃ v d, s.readStore o = .next { s with rdata := v, draws := d } := by
  by_cases h : StoreByteSpecified s o
  · exact ⟨_, s.draws, s.readStore_specified o h⟩
  by_cases ho : o < s.maxHdr.toNat + s.alloc.toNat
  · exact ⟨_, _, s.readStore_stale o h ho⟩
  · exact ⟨_, s.draws, s.readStore_beyond o h (Nat.le_of_not_lt ho)⟩

end

/-! ### A read again (R81) -/

/-- What a host read may change: the pending accesses, the value returned and the draw counter. -/
def State.afterRead (s : State) (rest : List HostAccess) (v : Word) (d : Nat) : State :=
  { s with host := rest, rdata := v, draws := d }

/-- A read of INBUF, of a register or outside the windows, or of a store byte that R72 gives a value. -/
def State.ReadSpecified (s : State) (a : Nat) : Prop :=
  a < 0x80000000 ∨ StoreByteSpecified s (a - 0x80000000) ∨ s.maxHdr.toNat + s.alloc.toNat ≤ a - 0x80000000

section
variable {s t : State} {size : AccessSize} {a : Nat} (ht : s.hostRead size a = .next t)
include ht

theorem State.accessOk_of_hostRead : accessOk size a = true := by
  by_contra hok
  rw [s.hostRead_refused hok] at ht
  cases ht

/-- A host read changes the value returned and the draw counter alone. -/
theorem State.hostRead_changes : ∃ v d, t = { s with rdata := v, draws := d } := by
  have hok := State.accessOk_of_hostRead ht
  rcases windowOf_cases a with ⟨-, hw⟩ | ⟨-, -, hw⟩ | ⟨-, -, hw⟩ | ⟨-, hw⟩
  · rw [s.hostRead_registers hok hw] at ht
    cases hv : s.readReg a with
    | none => rw [hv] at ht; cases ht
    | some v => rw [hv] at ht; cases ht; exact ⟨v, s.draws, rfl⟩
  · rw [s.hostRead_outside hok hw] at ht
    cases ht; exact ⟨0, s.draws, rfl⟩
  · rw [s.hostRead_inbuf hok hw] at ht
    cases ht; exact ⟨_, s.draws, rfl⟩
  · obtain ⟨v, d, hread⟩ := s.readStore_changes (a - storeBase)
    rw [s.hostRead_store hok hw, hread] at ht
    cases ht; exact ⟨v, d, rfl⟩

end

/-- The value of a specified read; none only where a register's view needs a stored body that does not decode (log 14). -/
def State.readValue (s : State) (a : Nat) : Option Word :=
  match windowOf a with
  | .registers => s.readReg a
  | .outside => some 0
  | .inbuf => some (if a - inbufBase < s.cfg.inbufBytes.toNat then (s.inByte (a - inbufBase)).setWidth 32 else 0)
  | .store => some (if s.storeSpecified (a - storeBase) then (s.storeByte (a - storeBase)).setWidth 32 else 0)

theorem State.readReg_afterRead (s : State) (rest : List HostAccess) (v : Word) (d a : Nat) :
    (s.afterRead rest v d).readReg a = s.readReg a := by
  have hc : (s.afterRead rest v d).contents = s.contents := State.KeepsMessage.contents_eq (s := s) {}
  unfold State.readReg
  rw [hc]
  rfl

theorem State.readValue_afterRead (s : State) (rest : List HostAccess) (v : Word) (d a : Nat) :
    (s.afterRead rest v d).readValue a = s.readValue a := by
  unfold State.readValue
  rw [State.readReg_afterRead]
  rfl

/-- A specified read returns its value and draws nothing. -/
theorem State.hostRead_specified {s : State} {size : AccessSize} {a : Nat} (hok : accessOk size a = true)
    (hspec : s.ReadSpecified a) : s.hostRead size a = (s.readValue a).elim (.fault .bodyMalformed) s.returns := by
  rcases windowOf_cases a with ⟨-, hw⟩ | ⟨-, -, hw⟩ | ⟨-, -, hw⟩ | ⟨hge, hw⟩
  · rw [s.hostRead_registers hok hw, State.readValue, hw]
  · rw [s.hostRead_outside hok hw, State.readValue, hw]
    rfl
  · rw [s.hostRead_inbuf hok hw, State.readValue, hw]
    rfl
  · rw [s.hostRead_store hok hw, State.readValue, hw]
    by_cases hb : StoreByteSpecified s (a - storeBase)
    · rw [s.readStore_specified _ hb, if_pos ((s.storeSpecified_iff _).mpr hb)]
      rfl
    · have hbeyond : s.maxHdr.toNat + s.alloc.toNat ≤ a - storeBase := (hspec.resolve_left (by omega)).resolve_left hb
      rw [s.readStore_beyond _ hb hbeyond, if_neg fun hs => hb ((s.storeSpecified_iff _).mp hs)]
      rfl

/-- A specified read returns the same whatever is pending, was returned or was drawn before. -/
theorem State.hostRead_afterRead {s t : State} {size : AccessSize} {a : Nat} (ht : s.hostRead size a = .next t)
    (hspec : s.ReadSpecified a) (rest : List HostAccess) (d : Nat) :
    (s.afterRead rest t.rdata d).hostRead size a = .next (s.afterRead rest t.rdata d) := by
  have hok := State.accessOk_of_hostRead ht
  have hspec' : (s.afterRead rest t.rdata d).ReadSpecified a := hspec
  rw [State.hostRead_specified hok hspec', State.readValue_afterRead]
  rw [State.hostRead_specified hok hspec] at ht
  cases hv : s.readValue a with
  | none => rw [hv] at ht; cases ht
  | some v => rw [hv] at ht; cases ht; rfl

/-! ### No command is refused -/

/-- A step or command has a meaning: it answers a next state or faults. -/
def Unrefused (x : Result) : Prop := ∀ r, x ≠ .refused r

@[simp] theorem unrefused_next (s : State) : Unrefused (.next s) := nofun

@[simp] theorem unrefused_fault (f : Fault) : Unrefused (.fault f) := nofun

@[simp] theorem unrefused_ite {b : Prop} [Decidable b] {x y : Result} :
    Unrefused (if b then x else y) ↔ (b → Unrefused x) ∧ (¬b → Unrefused y) := by
  split <;> simp [*]

@[simp] theorem State.unrefused_withContents (s : State) (f : List Opt → List Byte → State) :
    Unrefused (s.withContents f) := by
  unfold State.withContents
  split <;> simp

theorem execMsgInit_unrefused (p : Transport) (s : State) : Unrefused (execMsgInit p s) := by
  unfold execMsgInit
  rw [unrefused_ite]
  exact ⟨fun _ => unrefused_next _, fun _ => by split <;> simp⟩

theorem execResize_unrefused (s : State) : Unrefused (execResize s) := by
  simp only [execResize, unrefused_ite, unrefused_next, implies_true, true_and]
  intro _ _
  split <;> simp

theorem execParse_unrefused (p : Transport) (s : State) : Unrefused (execParse p s) := by
  unfold execParse
  rw [unrefused_ite]
  exact ⟨fun _ => unrefused_next _, fun _ => by split <;> simp⟩

theorem execEncodeHdr_unrefused (s : State) : Unrefused (execEncodeHdr s) := by
  unfold execEncodeHdr
  split <;> simp

theorem execIterNext_unrefused (s : State) : Unrefused (execIterNext s) := by
  simp only [execIterNext, unrefused_ite, unrefused_next, implies_true, true_and]
  intro _ _
  split <;> simp

/-- No instruction is without a meaning. -/
theorem exec_unrefused (i : Instr) (s : State) : Unrefused (exec i s) := by
  cases i with
  | msgInit p => exact execMsgInit_unrefused p s
  | resize => exact execResize_unrefused s
  | parse p => exact execParse_unrefused p s
  | encodeHdr => exact execEncodeHdr_unrefused s
  | iterNext => exact execIterNext_unrefused s
  | nop | clear | hdrSize | iterInit | wireDgramHeader | wireStreamHeaderS0to12 | wireStreamHeaderS13 | wireStreamHeaderS14
  | wireStreamHeaderS15 => exact unrefused_next _
  | setType => simp [exec, execSetType]
  | setCode => simp [exec, execSetCode]
  | setMid => simp [exec, execSetMid]
  | frameSize p => simp [exec, execFrameSize]
  | addToken => simp [exec, execAddToken]
  | updateToken => simp [exec, execUpdateToken]
  | addOption => simp [exec, execAddOption]
  | insertOption => simp [exec, execInsertOption]
  | updateOption => simp [exec, execUpdateOption]
  | removeOption => simp [exec, execRemoveOption]
  | addData => simp [exec, execAddData]
  | getData => simp [exec, execGetData]
  | wireOptionControl d l => simp [exec, execWireOptionControl]
  | wirePayloadMarker => simp [exec, execWirePayloadMarker]

theorem State.writeReg_unrefused (s : State) (off : Nat) (w : Word) : Unrefused (s.writeReg off w) := by
  unfold State.writeReg
  split
  · unfold State.runCommand
    split
    · exact exec_unrefused _ _
    · exact unrefused_next _
  all_goals exact unrefused_next _

/-- A read that R77 allows has a meaning. -/
theorem State.hostRead_unrefused (s : State) {size : AccessSize} {a : Nat} (hok : accessOk size a = true) :
    Unrefused (s.hostRead size a) := by
  rcases windowOf_cases a with ⟨-, hw⟩ | ⟨-, -, hw⟩ | ⟨-, -, hw⟩ | ⟨-, hw⟩
  · rw [s.hostRead_registers hok hw]
    cases s.readReg a with
    | none => exact unrefused_fault _
    | some v => exact unrefused_next _
  · rw [s.hostRead_outside hok hw]
    exact unrefused_next _
  · rw [s.hostRead_inbuf hok hw]
    exact unrefused_next _
  · obtain ⟨v, d, hread⟩ := s.readStore_changes (a - storeBase)
    rw [s.hostRead_store hok hw, hread]
    exact unrefused_next _

/-- A write that R77 allows has a meaning. -/
theorem State.hostWrite_unrefused (s : State) {size : AccessSize} {a : Nat} (hok : accessOk size a = true) (w : Word) :
    Unrefused (s.hostWrite size a w) := by
  rcases windowOf_cases a with ⟨-, hw⟩ | ⟨-, -, hw⟩ | ⟨-, -, hw⟩ | ⟨-, hw⟩
  · rw [s.hostWrite_registers w hok hw]
    exact s.writeReg_unrefused a w
  · rw [s.hostWrite_outside w hok hw]
    exact unrefused_next _
  · rw [s.hostWrite_inbuf w hok hw]
    exact unrefused_next _
  · rw [s.hostWrite_store w hok hw]
    exact unrefused_next _

section
variable {s : State} {rest : List HostAccess} {size : AccessSize} {a w : Word} {x : HostAccess}
  (hx : x = .read size a ∨ x = .write size a w) (hs : s.host = x :: rest)
include hx hs

/-- An access that R77 does not allow has no next state. -/
theorem step_refused (hok : ¬accessOk size a.toNat = true) : step s = .refused .accessSize := by
  rcases hx with rfl | rfl
  · rw [step_read hs, State.hostRead_refused _ hok]
  · rw [step_write hs, State.hostWrite_refused _ w hok]

/-- An access that R77 allows has a meaning. -/
theorem step_unrefused (hok : accessOk size a.toNat = true) : Unrefused (step s) := by
  rcases hx with rfl | rfl
  · rw [step_read hs]
    exact State.hostRead_unrefused _ hok
  · rw [step_write hs]
    exact State.hostWrite_unrefused _ hok w

end

end Sys2Proof.Machine

open Sys2Proof.Machine Sys2Proof.Spec

/-- Settles O22, by R77's check in each window: a refused access fails it, and one that meets it has a meaning. -/
theorem accessSizes : Obligations.AccessSizes := by
  intro s rest size a w x hx hs
  refine ⟨fun hlt hn => ?_, fun hge hn => ?_, fun hallowed => ?_⟩
  · exact step_refused hx hs fun hok => hn ((accessOk_registers hlt size).mp hok)
  · exact step_refused hx hs fun hok => hn ((accessOk_bytes hge size).mp hok)
  · rcases hallowed with ⟨hlt, hword⟩ | ⟨hge, hbyte⟩
    · exact step_unrefused hx hs ((accessOk_registers hlt size).mpr hword)
    · exact step_unrefused hx hs ((accessOk_bytes hge size).mpr hbyte)

/-- Settles O27. -/
theorem outsideTheWindows : Obligations.OutsideTheWindows := by
  intro s rest a w hlo hhi
  have hok := accessOk_outside hlo hhi
  have hw := windowOf_outside hlo hhi
  refine ⟨fun hs => ?_, fun hs => ?_⟩
  · rw [step_read hs, State.hostRead_outside _ hok hw]
    rfl
  · rw [step_write hs, State.hostWrite_outside _ w hok hw]

/-- Settles O26: the write is one of memory at that address, or none. -/
theorem inbufWindow : Obligations.InbufWindow := by
  intro s rest a w i ha hi
  have hok : accessOk .byte a.toNat = true := (accessOk_bytes (by omega) _).mpr rfl
  have hw : windowOf a.toNat = .inbuf := windowOf_inbuf (by omega) (by omega)
  have hidx : a.toNat - inbufBase = i := by rw [ha]; exact Nat.add_sub_cancel_left ..
  have haddr : inbufBase + i = a.toNat := ha.symm
  refine ⟨fun hs => ?_, fun hs => ?_⟩
  · rw [step_read hs, State.hostRead_inbuf _ hok hw, hidx]
    rfl
  · rw [step_write hs, State.hostWrite_inbuf _ w hok hw, hidx]
    refine ⟨fun hin => ⟨s.mem.write a.toNat (w.setWidth 8), ?_, ?_, fun x hx => ?_⟩, fun hout => ?_⟩
    · simp [State.writeInbuf, hin, haddr]
    · rw [Memory.read_write_same]
      rfl
    · exact Memory.read_write_other _ _ hx
    · simp [State.writeInbuf, hout]

/-- Settles O25, by the three answers of a store read. -/
theorem storeWindow : Obligations.StoreWindow := by
  intro s rest a w o ha
  have hok : accessOk .byte a.toNat = true := (accessOk_bytes (by omega) _).mpr rfl
  have hw : windowOf a.toNat = .store := windowOf_store (by omega)
  have hoff : a.toNat - storeBase = o := by rw [ha]; exact Nat.add_sub_cancel_left ..
  refine ⟨fun hs => ?_, fun hs => ?_⟩
  · rw [step_read hs, State.hostRead_store _ hok hw, hoff]
    let u : State := { s with host := rest }
    exact ⟨u.readStore_specified o, u.readStore_stale o, u.readStore_beyond o⟩
  · rw [step_write hs, State.hostWrite_store _ w hok hw]

/-- Settles O28: a read leaves all that a specified read depends on. -/
theorem readsAreIdempotent : Obligations.ReadsAreIdempotent := by
  intro s t rest size a hs ht
  rw [step_read hs] at ht
  obtain ⟨v, d, rfl⟩ := State.hostRead_changes ht
  refine ⟨rfl, fun hspec => ?_⟩
  rw [step_read (s := { s with host := _, rdata := v, draws := d }) rfl]
  exact State.hostRead_afterRead ht hspec rest d

end

section
/-! PROOF. The encoding of the instruction set (30_encoding): the decoder inverts the encoder at every place, a word written to CMD
against R120's map, and the one form of every extension value. -/

namespace Sys2Proof

open Sys2Proof.Machine Sys2Proof.Spec

/-! ### Fields side by side (R10, R74) -/

theorem be32bytes_be32 (w x y z : Byte) : be32bytes (be32 w x y z) = [w, x, y, z] := by
  have hw := w.isLt
  have hx := x.isLt
  have hy := y.isLt
  have hz := z.isLt
  simp only [be32bytes, be32, List.cons.injEq, and_true]
  refine ⟨?_, ?_, ?_, ?_⟩ <;> apply BitVec.eq_of_toNat_eq <;> simp only [BitVec.toNat_ofNat] <;> omega

theorem toNat_append_two_bytes (x y : Byte) : (x ++ y).toNat = be16 x y := toNat_append_eq_add x y

theorem toNat_append_four_bytes (w x y z : Byte) : (w ++ x ++ y ++ z).toNat = be32 w x y z := by
  simp only [toNat_append_eq_add, be32]; omega

@[simp] theorem bytes16_append (x y : Byte) : bytes16 (x ++ y) = [x, y] := by
  rw [bytes16, BitVec.extractLsb'_append_eq_left, BitVec.extractLsb'_append_eq_right]

theorem bytes32_eq_be32bytes (v : Word) : bytes32 v = be32bytes v.toNat := by
  simp only [bytes32, be32bytes, BitVec.extractLsb', Nat.shiftRight_eq_div_pow, Nat.reducePow, Nat.div_one]

@[simp] theorem bytes32_append (w x y z : Byte) : bytes32 (w ++ x ++ y ++ z) = [w, x, y, z] := by
  rw [bytes32_eq_be32bytes, toNat_append_four_bytes, be32bytes_be32]

/-- A 16-bit field from its two bytes. -/
@[simp] theorem append_extractLsb'_16 (v : BitVec 16) : v.extractLsb' 8 8 ++ v.extractLsb' 0 8 = v :=
  (BitVec.extractLsb'_append_extractLsb'_eq_extractLsb' rfl).trans BitVec.extractLsb'_eq_self

/-- A 32-bit field from its four bytes. -/
@[simp] theorem append_extractLsb'_32 (v : Word) :
    v.extractLsb' 24 8 ++ v.extractLsb' 16 8 ++ v.extractLsb' 8 8 ++ v.extractLsb' 0 8 = v := by
  apply BitVec.eq_of_toNat_eq
  have := v.isLt
  simp only [toNat_append_four_bytes, be32, BitVec.extractLsb'_toNat, Nat.shiftRight_eq_div_pow]
  omega

/-- The fields of a datagram's first byte (R100). -/
theorem dgramByte_split (v t : BitVec 2) (k : BitVec 4) :
    (v ++ t ++ k).extractLsb' 6 2 = v ∧ (v ++ t ++ k).extractLsb' 4 2 = t ∧ loNibble (v ++ t ++ k) = k := by
  revert v t k; decide

theorem dgramByte_join (b : Byte) : b.extractLsb' 6 2 ++ b.extractLsb' 4 2 ++ loNibble b = b := by
  revert b; decide

/-! ### Command words (R120 to R122) -/

/-- Each row of R120's map in the decoder's two tables. -/
theorem command_of_opcodeMap : ∀ e ∈ opcodeMap,
    (e.2.1 = true → classCommand e.1 = some e.2.2) ∧
      (e.2.1 = false → classCommand e.1 = none ∧ plainCommand e.1 = some (e.2.2 .dgram)) := by
  simp [opcodeMap, classCommand, plainCommand]

theorem opcodeMap_of_classCommand {n : Nat} {f : Transport → Instr} (h : classCommand n = some f) :
    (n, true, f) ∈ opcodeMap := by
  unfold classCommand at h
  split at h <;> cases h <;> simp [opcodeMap]

theorem opcodeMap_of_plainCommand {n : Nat} {i : Instr} (h : plainCommand n = some i) : (n, false, fun _ => i) ∈ opcodeMap := by
  unfold plainCommand at h
  split at h <;> cases h <;> simp [opcodeMap]

/-- One opcode does not stand both with and without P in R120's map. -/
theorem opcodeMap_class_unique : ∀ e ∈ opcodeMap, ∀ e' ∈ opcodeMap, e.1 = e'.1 → e.2.1 = e'.2.1 := by decide

/-- The words that select a command, by R120's map (R121, R122). -/
theorem decodeCommand_eq_ok_iff {w : Word} {i : Instr} : decodeCommand w = .ok i ↔
    w.extractLsb' 9 23 = 0 ∧ ∃ e ∈ opcodeMap, (w.extractLsb' 0 8).toNat = e.1 ∧ (w.getLsbD 8 = true → e.2.1 = true) ∧
      i = e.2.2 (wordClass w) := by
  constructor
  · intro h
    unfold decodeCommand at h
    split at h
    · cases h
    next hz =>
    refine ⟨not_not.mp hz, ?_⟩
    split at h
    · next f hf => cases h; exact ⟨_, opcodeMap_of_classCommand hf, rfl, fun _ => rfl, rfl⟩
    split at h
    · next hi =>
      split at h
      · cases h
      · next h8 => cases h; exact ⟨_, opcodeMap_of_plainCommand hi, rfl, fun h => absurd h h8, rfl⟩
    · cases h
  · rintro ⟨hz, ⟨n, takes, f⟩, he, hop, h8, rfl⟩
    obtain ⟨hclass, hplain⟩ := command_of_opcodeMap _ he
    rw [decodeCommand, if_neg (not_not.mpr hz), hop]
    cases takes with
    | true => rw [hclass rfl, wordClass]
    | false =>
      obtain ⟨hnone, hi⟩ := hplain rfl
      have h8 : ¬w.getLsbD 8 = true := fun h => nomatch h8 h
      rw [hnone, hi, wordClass]
      simp only [if_neg h8]

/-- A command's bytes hold its row's opcode and its class. -/
theorem encode_of_opcodeMap {p : Transport} : ∀ e ∈ opcodeMap, (p = .stream → e.2.1 = true) →
    encode (e.2.2 p) = commandBytes e.1 p := by
  cases p <;> decide

/-- A word without reserved bits is its opcode and its class bit (R121). -/
theorem toNat_commandWord {w : Word} (h : w.extractLsb' 9 23 = 0) :
    w.toNat = classBit (wordClass w) + (w.extractLsb' 0 8).toNat := by
  have hz := congrArg BitVec.toNat h
  have hlt := w.isLt
  have h8 : w.getLsbD 8 = decide (w.toNat / 256 % 2 = 1) := Nat.testBit_eq_decide_div_mod_eq
  simp only [BitVec.extractLsb'_toNat, Nat.shiftRight_eq_div_pow, BitVec.ofNat_eq_ofNat, BitVec.toNat_ofNat] at hz ⊢
  rw [wordClass, h8]
  by_cases hb : w.toNat / 256 % 2 = 1 <;> simp only [hb, decide_true, decide_false, reduceIte, Bool.false_eq_true, classBit] <;>
    omega

/-- A word that selects a command is that command's encoding. -/
theorem encode_of_decodeCommand {w : Word} {i : Instr} (h : decodeCommand w = .ok i) : encode i = be32bytes w.toNat := by
  obtain ⟨hz, e, he, hop, h8, rfl⟩ := decodeCommand_eq_ok_iff.mp h
  have hclass : wordClass w = .stream → e.2.1 = true := fun hc => h8 (by simpa [wordClass] using hc)
  rw [encode_of_opcodeMap e he hclass, commandBytes, toNat_commandWord hz, hop]

theorem wellFormed_of_place_command {i : Instr} (h : i.place = .command) : i.wellFormed = true := by
  cases i
  case wireDgramHeader | wireStreamHeaderS0to12 | wireStreamHeaderS13 | wireStreamHeaderS14 | wireStreamHeaderS15 |
    wireOptionControl => cases h
  all_goals rfl

theorem decode_encode_command {i : Instr} (h : i.place = .command) (rest : List Byte) :
    decode .command (encode i ++ rest) = .ok (i, rest) := by
  cases i
  case msgInit p | hdrSize p | frameSize p | parse p => cases p <;> rfl
  case wireDgramHeader | wireStreamHeaderS0to12 | wireStreamHeaderS13 | wireStreamHeaderS14 | wireStreamHeaderS15 |
    wireOptionControl | wirePayloadMarker => cases h
  all_goals rfl

/-! ### What decodes is the encoding -/

theorem packNibbles_of_hiNibble {b : Byte} {sel : BitVec 4} (h : (hiNibble b).toNat = sel.toNat) :
    packNibbles sel (loNibble b) = b := by
  rw [← BitVec.eq_of_toNat_eq h, packNibbles_nibbles]

/-- A stream header by its selector class (R101, R102). -/
theorem encode_of_decodeStreamHead {b0 : Byte} {bs rest : List Byte} {i : Instr} (hk : tokenLengthOk (loNibble b0) = true)
    (h : decodeStreamHead b0 bs = .ok (i, rest)) :
    i.place = .streamHead ∧ i.wellFormed = true ∧ encode i ++ rest = b0 :: bs := by
  unfold decodeStreamHead at h
  split at h
  · next h12 =>
    split at h
    · cases h; exact ⟨rfl, by simp [Instr.wellFormed, h12, hk], by simp [encode]⟩
    · cases h
  split at h
  · next h13 =>
    split at h
    · cases h; exact ⟨rfl, hk, by rw [encode, packNibbles_of_hiNibble (sel := 13) h13]; simp⟩
    · cases h
  split at h
  · next h14 =>
    split at h
    · cases h; exact ⟨rfl, hk, by rw [encode, packNibbles_of_hiNibble (sel := 14) h14]; simp⟩
    · cases h
  next h12 h13 h14 =>
  have h15 : (hiNibble b0).toNat = 15 := by have := (hiNibble b0).isLt; omega
  split at h
  · cases h; exact ⟨rfl, hk, by rw [encode, packNibbles_of_hiNibble (sel := 15) h15]; simp⟩
  · cases h

/-- No reserved form decodes, and what decodes has one byte sequence (R109, R112, R122, R123). -/
theorem encode_of_decode {p : Place} {b rest : List Byte} {i : Instr} (h : decode p b = .ok (i, rest)) :
    i.place = p ∧ i.wellFormed = true ∧ encode i ++ rest = b := by
  unfold decode at h
  split at h
  case h_1 b0 b1 b2 b3 bs => -- a command word
    split at h
    · next hi =>
      cases h
      have hplace := decodeCommand_place hi
      refine ⟨hplace, wellFormed_of_place_command hplace, ?_⟩
      rw [encode_of_decodeCommand hi, toNat_append_four_bytes, be32bytes_be32]
      rfl
    · cases h
  case h_3 => -- a datagram header
    split at h
    · next hk =>
      split at h
      · cases h; exact ⟨rfl, hk, by simp [encode, dgramByte_join]⟩
      · cases h
    · cases h
  case h_5 => -- a stream header
    split at h
    · next hk => exact encode_of_decodeStreamHead hk h
    · cases h
  case h_7 => -- the marker or a control byte
    split at h
    · next hc => cases h; exact ⟨rfl, rfl, by rw [hc]; rfl⟩
    split at h
    · next hn => cases h; exact ⟨rfl, hn, by simp [encode]⟩
    · cases h
  all_goals cases h -- too few bytes

/-! ### The encoding decodes -/

/-- R100. -/
theorem decode_encode_datagramHead {k : BitVec 4} (hk : tokenLengthOk k = true) (v t : BitVec 2) (c : Byte) (m : BitVec 16)
    (rest : List Byte) :
    decode .datagramHead (encode (.wireDgramHeader v t k c m) ++ rest) = .ok (.wireDgramHeader v t k c m, rest) := by
  obtain ⟨hv, ht, hlo⟩ := dgramByte_split v t k
  simp [encode, bytes16, decode, hv, ht, hlo, hk]

/-- With a legal token length the decoder goes by the selector class. -/
theorem decode_streamHead_packNibbles {k : BitVec 4} (hk : tokenLengthOk k = true) (sel : BitVec 4) (bs : List Byte) :
    decode .streamHead (packNibbles sel k :: bs) = decodeStreamHead (packNibbles sel k) bs := by
  simp [decode, hk]

/-- R107: without a reserved nibble a control byte is not the marker. -/
theorem decode_encode_optionPosition {d l : BitVec 4} (hd : optionNibbleOk d = true) (hl : optionNibbleOk l = true)
    (rest : List Byte) : decode .optionPosition (encode (.wireOptionControl d l) ++ rest) = .ok (.wireOptionControl d l, rest) := by
  have hne : d ≠ 15 := by rintro rfl; cases hd
  change (if packNibbles d l = 0xFF then _ else if _ then _ else _) = _
  rw [if_neg (packNibbles_ne_marker hne), hiNibble_packNibbles, loNibble_packNibbles, if_pos (by rw [hd, hl]; rfl)]
  rfl

/-- Decoding inverts encoding, row by row of the opcode table (R100 to R102, R107, R108, R120). -/
theorem decode_encode (i : Instr) (rest : List Byte) (h : i.wellFormed = true) :
    decode i.place (encode i ++ rest) = .ok (i, rest) := by
  cases i
  case wireDgramHeader v t k c m => exact decode_encode_datagramHead h v t c m rest
  case wireStreamHeaderS0to12 s k c =>
    obtain ⟨hs, hk⟩ : s.toNat ≤ 12 ∧ tokenLengthOk k = true := by simpa [Instr.wellFormed] using h
    exact (decode_streamHead_packNibbles hk s _).trans (by simp [decodeStreamHead, hs])
  case wireStreamHeaderS13 k e c => exact (decode_streamHead_packNibbles h 13 _).trans (by simp [decodeStreamHead])
  case wireStreamHeaderS14 k e c => exact (decode_streamHead_packNibbles h 14 _).trans (by simp [decodeStreamHead, bytes16])
  case wireStreamHeaderS15 k e c => exact (decode_streamHead_packNibbles h 15 _).trans (by simp [decodeStreamHead, bytes32])
  case wireOptionControl d l =>
    obtain ⟨hd, hl⟩ : optionNibbleOk d = true ∧ optionNibbleOk l = true := by simpa [Instr.wellFormed] using h
    exact decode_encode_optionPosition hd hl rest
  case wirePayloadMarker => rfl
  all_goals exact decode_encode_command rfl rest

end Sys2Proof

namespace Sys2Proof.Machine

/-! ### Extension forms (R104 to R106) -/

/-- Values above an option's classes have no option form (R104). -/
theorem le_of_extEnc {v : Nat} {f : BitVec 4 × List Byte} (h : extEnc v = some f) : v ≤ 65804 := by
  unfold extEnc at h
  split at h
  · omega
  split at h
  · omega
  split at h
  · assumption
  · cases h

/-- A value's form is the only one, in a stream header (R106). -/
theorem extEncHdr_extDec {k : BitVec 4} {e : List Byte} (he : e.length = extLen k) : extEncHdr (extDec k e) = some (k, e) := by
  by_cases hk : k = 15
  · subst hk
    obtain ⟨w, x, y, z, rfl⟩ : ∃ w x y z, e = [w, x, y, z] := List.length_eq_four.mp he
    have hb : be32 w x y z < 4294967296 := toNat_append_four_bytes w x y z ▸ BitVec.isLt _
    rw [extDec_fourBytes, extEncHdr, if_neg (by omega), if_pos (by omega), Nat.add_sub_cancel, be32bytes_be32]
  · have hf := extEnc_extDec hk he
    rw [extEncHdr, if_pos (le_of_extEnc hf), hf]

end Sys2Proof.Machine

open Sys2Proof Sys2Proof.Machine

/-- Settles O1, row by row of the opcode table. -/
theorem decodeInvertsEncode : Obligations.DecodeInvertsEncode := decode_encode

/-- Settles O2, arm by arm of the decoder. -/
theorem decodedBytesAreTheEncoding : Obligations.DecodedBytesAreTheEncoding := fun _ _ _ _ => encode_of_decode

/-- Settles O3, by the words that select a command. -/
theorem commandWordRunsOrIsIllegal : Obligations.CommandWordRunsOrIsIllegal := by
  intro s rest w hs
  have hstep : step s = ({ s with host := rest } : State).runCommand w := step_write_register hs (by decide) (by decide)
  rw [hstep, State.runCommand]
  refine ⟨fun e he hz hop h8 => ?_, fun hbad => ?_⟩
  · rw [decodeCommand_eq_ok_iff.mpr ⟨hz, e, he, hop, h8, rfl⟩]
  · cases hd : decodeCommand w with
    | error => rfl
    | ok i =>
      obtain ⟨hz, e, he, hop, h8, -⟩ := decodeCommand_eq_ok_iff.mp hd
      rcases hbad with hres | hnone | ⟨hb, e', he', hop', hclass⟩
      · exact absurd hz hres
      · exact absurd hop (hnone e he)
      · have := opcodeMap_class_unique e he e' he' (hop.symm.trans hop')
        simp [h8 hb, hclass] at this

/-- Settles O8, by the round trips of R104 and R105 in an option and in a stream header. -/
theorem extensionFormsAreUnique : Obligations.ExtensionFormsAreUnique := by
  refine ⟨fun v k e h => ?_, fun v k e h => extDec_of_extEncHdr h, fun k e => extEnc_extDec, fun k e => extEncHdr_extDec⟩
  obtain ⟨hval, hne⟩ := extDec_of_extEnc h
  exact ⟨hval, extEnc_length h, hne⟩

/-- Settles O4: each word is a closed computation. -/
theorem specWordsDecode : Obligations.SpecWordsDecode := by
  unfold Obligations.SpecWordsDecode
  decide
end

section
/-! PROOF. The wire rows (30_encoding R100 to R109; log 9): what each header row reports, and what each element row does to the
iterator. -/

namespace Sys2Proof.Machine

open Sys2Proof.Spec

/-! ### Extension values written out (R102, R105) -/

theorem extDec_eq_extended (k : BitVec 4) (e : List Byte) : extDec k e = extended k.toNat fun i => (e.getD i 0).toNat := rfl

theorem extLen_eq_extensionBytes (k : BitVec 4) : extLen k = extensionBytes k.toNat := rfl

/-- A value depends on its extension bytes alone. -/
theorem extended_congr {n : Nat} {b b' : Nat → Nat} (h : ∀ i < extensionBytes n, b i = b' i) :
    extended n b = extended n b' := by
  unfold extended
  unfold extensionBytes at h
  split
  · rfl
  next h12 =>
  rw [if_neg h12] at h
  split
  · next h13 => rw [if_pos h13] at h; rw [h 0 (by omega)]
  next h13 =>
  rw [if_neg h13] at h
  split
  · next h14 => rw [if_pos h14] at h; rw [h 0 (by omega), h 1 (by omega)]
  · next h14 => rw [if_neg h14] at h; rw [h 0 (by omega), h 1 (by omega), h 2 (by omega), h 3 (by omega)]

theorem extDec_bytes16 (v : BitVec 16) : extDec 14 (bytes16 v) = v.toNat + 269 := by
  rw [bytes16, extDec_twoBytes, ← toNat_append_two_bytes, append_extractLsb'_16]

theorem extDec_bytes32 (v : Word) : extDec 15 (bytes32 v) = v.toNat + 65805 := by
  rw [bytes32, extDec_fourBytes, ← toNat_append_four_bytes, append_extractLsb'_32]

/-! ### What a command ends in, by R13 and R273 -/

theorem State.raise_eq_failed (s : State) (c : Completion) : s.raise c = failed s c := rfl

theorem State.finish_eq_done (s : State) (r0 r1 r2 r3 : Nat) : s.finish r0 r1 r2 r3 = done s r0 r1 r2 r3 := rfl

/-! ### Header rows (R100 to R102, R140) -/

/-- A stream header of any selector class with its extension bytes: its sizes, or the first failure. -/
theorem State.reportHeader_stream (s : State) {sel : BitVec 4} {ext : List Byte} {len : Nat} (hext : ext.length = extLen sel)
    (hlen : extDec sel ext = len) (k : BitVec 4) (c : Byte) :
    s.reportHeader .stream (packNibbles sel k :: (ext ++ [c])) =
      if 8 < k.toNat then failed s .malformedHeader
      else if s.cfg.maxRecv.toNat < 2 + ext.length + k.toNat + len then failed s .sizeExceeded
      else done s (2 + ext.length) (k.toNat + len) (2 + ext.length + k.toNat + len) k.toNat := by
  have hshort : ¬(packNibbles sel k :: (ext ++ [c])).length < 1 + extLen sel := by simp [hext]; omega
  have htake : (ext ++ [c]).take (extLen sel) = ext := by rw [← hext, List.take_left]
  simp only [State.reportHeader, State.readHeader, hdrDecode, hiNibble_packNibbles, loNibble_packNibbles, htake, hlen,
    if_neg hshort]
  rw [← hext]
  split_ifs <;> rfl

/-- The version check of R140. -/
theorem ne_version_iff (v : BitVec 2) : (v != Config.version) = true ↔ v.toNat ≠ 1 := by revert v; decide

/-- A datagram header: what R140 gives four bytes. -/
theorem State.reportHeader_dgram (s : State) (v t : BitVec 2) (k : BitVec 4) (c : Byte) (m : BitVec 16) :
    s.reportHeader .dgram (encode (.wireDgramHeader v t k c m)) =
      headerReport s .dgram 4 fun _ => 64 * v.toNat + 16 * t.toNat + k.toNat := by
  obtain ⟨hv, ht, hlo⟩ := dgramByte_split v t k
  have hver : (64 * v.toNat + 16 * t.toNat + k.toNat) / 64 = v.toNat := by omega
  have hk : (64 * v.toNat + 16 * t.toNat + k.toNat) % 16 = k.toNat := by omega
  simp only [State.reportHeader, State.readHeader, encode, bytes16, hdrDecode, headerReport, hv, hlo, hver, hk, Bool.and_eq_true,
    ne_version_iff, List.length_cons, List.length_nil, Nat.reduceAdd, OfNat.ofNat_ne_zero, lt_self_iff_false, if_false]
  split_ifs <;> rfl

/-! ### Element rows (R107, R108) -/

theorem State.getD_memRead (s : State) (o : Nat) {n i : Nat} (h : i < n) : (s.memRead o n).getD i 0 = s.storeByte (o + i) := by
  rw [List.getD_eq_getElem _ _ (by simpa using h)]
  simp [State.memRead, State.storeByte, Nat.add_assoc]

/-- An extension value read from the store. -/
theorem State.extDec_memRead (s : State) (k : BitVec 4) (o : Nat) :
    extDec k (s.memRead o (extLen k)) = extended k.toNat fun i => (s.storeByte (o + i)).toNat := by
  rw [extDec_eq_extended]
  refine extended_congr fun i hi => ?_
  rw [← extLen_eq_extensionBytes] at hi
  rw [s.getD_memRead o hi]

/-- R109. -/
theorem optionNibbleOk_iff (k : BitVec 4) : optionNibbleOk k = true ↔ k ≠ 15 := by revert k; decide

theorem optionNibblesOk_iff (d l : BitVec 4) : (optionNibbleOk d && optionNibbleOk l) = true ↔ d ≠ 15 ∧ l ≠ 15 := by
  rw [Bool.and_eq_true, optionNibbleOk_iff, optionNibbleOk_iff]

end Sys2Proof.Machine

open Sys2Proof Sys2Proof.Machine

/-- Settles O42: each stream row is the header of its selector class and extension bytes. -/
theorem wireHeaderRowsReport : Obligations.WireHeaderRowsReport := by
  intro s k c
  refine ⟨fun v t m => ?_, fun sel hsel => ?_, fun e => ?_, fun e => ?_, fun e => ?_⟩
  · exact congrArg _ (s.reportHeader_dgram v t k c m)
  · exact congrArg _ (s.reportHeader_stream (sel := sel) (ext := []) (by simp [extLen, hsel]) (by simp [extDec, hsel]) k c)
  · exact congrArg _ (s.reportHeader_stream (sel := 13) (ext := [e]) rfl (extDec_oneByte e) k c)
  · exact congrArg _ (s.reportHeader_stream (sel := 14) (ext := bytes16 e) rfl (extDec_bytes16 e) k c)
  · exact congrArg _ (s.reportHeader_stream (sel := 15) (ext := bytes32 e) rfl (extDec_bytes32 e) k c)

/-- Settles O51: the extension values are read from the store after the control byte. -/
theorem wireElementRowsIterate : Obligations.WireElementRowsIterate := by
  intro s d l b xd xl delta len value
  have hexec : exec (.wireOptionControl d l) s = execWireOptionControl d l s := rfl
  have hmarker : exec .wirePayloadMarker s = execWirePayloadMarker s := rfl
  refine ⟨fun hv => ?_, fun hv => ?_, fun hv hd hl => ?_, fun hv hn => ?_⟩
  · simp [hexec, hmarker, execWireOptionControl, execWirePayloadMarker, hv, State.raise_eq_failed]
  · simp [hmarker, execWirePayloadMarker, hv, State.finish_eq_done]
  · have hdelta : extDec d (s.memRead (s.itPos.toNat + 1) (extLen d)) = delta := by
      rw [State.extDec_memRead]
      simp only [delta, b, Nat.add_assoc]
    have hlen : extDec l (s.memRead (s.itPos.toNat + 1 + extLen d) (extLen l)) = len := by
      rw [State.extDec_memRead]
      simp only [len, b, xd, extLen_eq_extensionBytes, Nat.add_assoc]
    clear_value delta len
    rw [hexec, execWireOptionControl, if_neg (by simp [hv]), if_pos ((optionNibblesOk_iff d l).mpr ⟨hd, hl⟩)]
    simp only [State.iterEntry, hdelta, hlen]
    rfl
  · have hbad : ¬(optionNibbleOk d && optionNibbleOk l) = true := by rw [optionNibblesOk_iff]; tauto
    rw [hexec, execWireOptionControl, if_neg (by simp [hv]), if_neg hbad, State.raise_eq_failed]
end

section
/-! PROOF. The header codec on its own (40_header_codec R140 to R143, R150, R151): what FRAME_SIZE and HDR_SIZE report, and the
header round trip under any ceiling and version check. -/

namespace Sys2Proof.Machine

open Sys2Proof.Spec

/-! ### Nibbles as numbers (R10) -/

theorem hiNibble_toNat (b : Byte) : (hiNibble b).toNat = b.toNat / 16 := by revert b; decide

theorem loNibble_toNat (b : Byte) : (loNibble b).toNat = b.toNat % 16 := by revert b; decide

theorem extractLsb'_version_toNat (b : Byte) : (b.extractLsb' 6 2).toNat = b.toNat / 64 := by revert b; decide

/-! ### Reports (R150, R151) -/

/-- A report depends on the bytes of the frame alone: an extension is read only where it is there. -/
theorem headerReport_congr (s : State) (p : Transport) {n : Nat} {b b' : Nat → Nat} (h : ∀ i < n, b i = b' i) :
    headerReport s p n b = headerReport s p n b' := by
  unfold headerReport
  split
  · rfl
  next hn =>
  rw [h 0 (by omega)]
  split
  · rfl
  cases p with
  | dgram => rfl
  | stream =>
    dsimp only
    split
    · rfl
    next hext => rw [extended_congr fun i hi => h (1 + i) (by omega)]

/-- R140's datagram report, read off the bytes. -/
theorem State.reportHeader_dgram_cons (s : State) (b0 : Byte) (bs : List Byte) :
    s.reportHeader .dgram (b0 :: bs) = headerReport s .dgram (bs.length + 1) fun i => ((b0 :: bs).getD i 0).toNat := by
  simp only [State.reportHeader, State.readHeader, hdrDecode, headerReport, List.getD_cons_zero, loNibble_toNat,
    if_neg (Nat.succ_ne_zero bs.length)]
  match bs with
  | [] | [_] | [_, _] => by_cases htkl : 8 < b0.toNat % 16 <;> simp [htkl] <;> rfl
  | b1 :: b2 :: b3 :: bs =>
    have hlen : ¬bs.length + 1 + 1 + 1 + 1 < 4 := by omega
    simp only [Bool.and_eq_true, ne_version_iff, extractLsb'_version_toNat, if_neg hlen, List.length_cons]
    split_ifs <;> rfl

/-- R140's stream report, read off the bytes. -/
theorem State.reportHeader_stream_cons (s : State) (b0 : Byte) (bs : List Byte) :
    s.reportHeader .stream (b0 :: bs) = headerReport s .stream (bs.length + 1) fun i => ((b0 :: bs).getD i 0).toNat := by
  have hlen : extDec (hiNibble b0) (bs.take (extensionBytes (b0.toNat / 16))) =
      extended (b0.toNat / 16) fun k => ((b0 :: bs).getD (1 + k) 0).toNat := by
    rw [extDec_eq_extended, hiNibble_toNat]
    refine extended_congr fun i hi => ?_
    simp [List.getD_eq_getElem?_getD, Nat.add_comm 1 i, hi]
  simp only [State.reportHeader, State.readHeader, hdrDecode, headerReport, List.getD_cons_zero, loNibble_toNat, hlen,
    if_neg (Nat.succ_ne_zero bs.length), extLen_eq_extensionBytes, hiNibble_toNat, List.length_cons]
  split_ifs <;> rfl

/-- The block's report of a frame's first bytes is R140's, read off those bytes. -/
theorem State.reportHeader_eq_headerReport (s : State) (p : Transport) (b : List Byte) :
    s.reportHeader p b = headerReport s p b.length fun i => (b.getD i 0).toNat := by
  cases b with
  | nil => rfl
  | cons b0 bs =>
    cases p with
    | dgram => exact s.reportHeader_dgram_cons b0 bs
    | stream => exact s.reportHeader_stream_cons b0 bs

/-- The count check as the commands write it (D38). -/
theorem State.not_countOk_iff (s : State) : (!s.countOk s.a0) = true ↔ s.cfg.inbufBytes.toNat < s.arg0.toNat := by
  rw [Bool.not_eq_true', State.countOk, decide_eq_false_iff_not, Nat.not_le, State.a0]

theorem State.getD_bytes0 (s : State) {i : Nat} (h : i < s.a0) : s.bytes0.getD i 0 = s.inByte i := by
  rw [List.getD_eq_getElem _ _ (by simpa using h)]
  simp [State.bytes0, State.inRead, State.inByte]

/-- FRAME_SIZE over a frame that fits INBUF (R151). -/
theorem exec_frameSize {s : State} (p : Transport) (hcount : s.arg0.toNat ≤ s.cfg.inbufBytes.toNat) :
    exec (.frameSize p) s = .next (s.reportHeader p s.bytes0) := by
  change execFrameSize p s = _
  rw [execFrameSize, if_neg (s.not_countOk_iff.not.mpr hcount.not_gt)]

/-- The places of the two classes' headers (R100, R101). -/
def headPlace : Transport → Place
  | .dgram => .datagramHead
  | .stream => .streamHead

/-- A header row reports its own bytes (log 9). -/
theorem exec_headerRow {p : Transport} {i : Instr} (h : i.place = headPlace p) (s : State) :
    exec i s = .next (s.reportHeader p (encode i)) := by
  cases p with
  | dgram =>
    cases i with
    | wireDgramHeader => rfl
    | _ => cases h
  | stream =>
    cases i with
    | wireStreamHeaderS0to12 | wireStreamHeaderS13 | wireStreamHeaderS14 | wireStreamHeaderS15 => rfl
    | _ => cases h

/-! ### The round trip (R143) -/

/-- A header that decodes does so under every ceiling its frame keeps to, with a version check that it passes. -/
theorem hdrDecode_relax {m m' : Nat} {c c' : Bool} {p : Transport} {b : List Byte} {h : Header}
    (hd : hdrDecode m c p b = .ok h) (hm : h.total ≤ m') (hver : p = .dgram → h.ver = Config.version) :
    hdrDecode m' c' p b = .ok h := by
  cases p with
  | dgram =>
    obtain ⟨b0, b1, b2, b3, bs, rfl, htkl, rfl⟩ := exists_of_hdrDecode_dgram hd
    have hv : b0.extractLsb' 6 2 = Config.version := hver rfl
    replace hm : (b0 :: b1 :: b2 :: b3 :: bs).length ≤ m' := hm
    simp only [hdrDecode, hv]
    rw [if_neg (by omega), if_neg (by simp), if_neg hm.not_gt, ← hv]
    rfl
  | stream =>
    cases b with
    | nil => cases hd
    | cons b0 bs =>
      simp only [hdrDecode] at hd ⊢
      split at hd
      · cases hd
      next htkl =>
      split at hd
      · cases hd
      next hext =>
      split at hd
      · cases hd
      cases hd
      rw [if_neg htkl, if_neg hext, if_neg hm.not_gt]

/-- The version the encoder writes (R7, D11). -/
theorem ver_of_hdrEncode {m : Nat} {c : Bool} {ty : BitVec 2} {tkl : BitVec 4} {code : Byte} {mid : BitVec 16} {n : Nat}
    {r body : List Byte} {h : Header} (he : hdrEncode .dgram ty tkl code mid n = .ok r)
    (hd : hdrDecode m c .dgram (r ++ body) = .ok h) : h.ver = Config.version := by
  cases he
  obtain ⟨b0, b1, b2, b3, bs, hb, -, rfl⟩ := exists_of_hdrDecode_dgram hd
  obtain ⟨rfl, -⟩ := List.cons.inj hb
  exact (dgramByte_split Config.version ty tkl).1

/-- Decoding inverts encoding under any version check and every ceiling that the frame keeps to (R143). -/
theorem hdrDecode_hdrEncode_within {p : Transport} {ty : BitVec 2} {tkl : BitVec 4} {code : Byte} {mid : BitVec 16} {n m : Nat}
    {r body : List Byte} (he : hdrEncode p ty tkl code mid n = .ok r) (htkl : tkl.toNat ≤ 8)
    (hbody : body.length = tkl.toNat + n) (hm : (r ++ body).length ≤ m) (c : Bool) :
    ∃ h, hdrDecode m c p (r ++ body) = .ok h ∧ h.hs = r.length ∧ h.tkl = tkl.toNat ∧ h.code = some code ∧
      h.type = onDgram p ty ∧ h.mid = onDgram p mid ∧ h.body = body.length ∧ h.total = (r ++ body).length ∧
      (p = .dgram → h.ver = Config.version) := by
  obtain ⟨h, hd, hhs, htk, hcode, hty, hmid, hb, htotal⟩ := hdrDecode_hdrEncode he htkl hbody
  have hver : p = .dgram → h.ver = Config.version := by rintro rfl; exact ver_of_hdrEncode he hd
  rw [List.length_append] at hm ⊢
  exact ⟨h, hdrDecode_relax hd (htotal.trans_le hm) hver, hhs, htk, hcode, hty, hmid, hb, htotal, hver⟩

end Sys2Proof.Machine

open Sys2Proof Sys2Proof.Machine Sys2Proof.Spec

/-- Settles O36: the selector is the first byte's high nibble. -/
theorem hdrSizeReportsTheHeaderSize : Obligations.HdrSizeReportsTheHeaderSize := by
  intro s
  refine ⟨rfl, ?_⟩
  rw [← hiNibble_toNat, ← extLen_eq_extensionBytes]
  rfl

/-- Settles O37: FRAME_SIZE's report is R140's of the bytes in INBUF. -/
theorem frameSizeReportsTheHeader : Obligations.FrameSizeReportsTheHeader := by
  intro p s
  split
  next hbig =>
    change execFrameSize p s = _
    rw [execFrameSize, if_pos (s.not_countOk_iff.mpr hbig), State.raise_eq_failed]
  next hcount =>
    rw [exec_frameSize p (Nat.not_lt.mp hcount), State.reportHeader_eq_headerReport, State.bytes0_length]
    exact congrArg _ (headerReport_congr s p fun i hi => by rw [s.getD_bytes0 hi])

/-- Settles O6: both report the bytes that stand in INBUF. -/
theorem frameSizeRunsTheHeaderRows : Obligations.FrameSizeRunsTheHeaderRows := by
  intro s p i hplace hcount hfit hbytes
  have hb : s.bytes0 = encode i := by rw [State.bytes0, State.a0, hcount, hbytes]
  have hhead : i.place = headPlace p := hplace.trans (by cases p <;> rfl)
  rw [exec_frameSize p (hcount.trans_le hfit), hb, exec_headerRow hhead]

/-- Settles O9, from the round trip of R142's header. -/
theorem headerRoundTrip : Obligations.HeaderRoundTrip := by
  intro p m chk ty tkl code mid n r body htkl he hbody hm
  obtain ⟨h, hd, hhs, htk, hcode, hty, hmid, hb, htotal, hver⟩ := hdrDecode_hdrEncode_within he htkl hbody hm chk
  refine ⟨h, hd, hhs, htk, hcode, hb.trans hbody, htotal, ?_⟩
  rintro rfl
  exact ⟨hver rfl, hty, hmid⟩
end

section
/-! PROOF. ENCODE_HDR (40_header_codec R153, R154): the header of R142, where it is stored, and the whole frame. -/

namespace Sys2Proof.Machine

open Sys2Proof.Spec

/-! ### The encoded header (R142) -/

theorem packNibbles_eq_ofNat (sel k : BitVec 4) : packNibbles sel k = BitVec.ofNat 8 (16 * sel.toNat + k.toNat) := by
  revert sel k; decide

/-- A datagram's first byte as a number (R100, D11). -/
theorem dgramByte_eq_ofNat (ty : BitVec 2) (k : BitVec 4) :
    Config.version ++ ty ++ k = BitVec.ofNat 8 (64 + 16 * ty.toNat + k.toNat) := by
  revert ty k; decide

theorem bytes16_eq_be16bytes (v : BitVec 16) : bytes16 v = be16bytes v.toNat := by
  simp only [bytes16, be16bytes, BitVec.extractLsb', Nat.shiftRight_eq_div_pow, Nat.reducePow, Nat.div_one]

/-- A 32-bit content length has a form, and its header is R142's. -/
theorem hdrEncode_eq_headerBytes (s : State) :
    hdrEncode s.proto s.msgType s.tkl s.msgCode s.msgId (s.used.toNat - s.tkl.toNat) = .ok (headerBytes s) := by
  cases hp : s.proto with
  | dgram =>
    have hmid := bytes16_eq_be16bytes s.msgId
    simp only [hdrEncode, headerBytes, hp, dgramByte_eq_ofNat]
    exact congrArg (fun m => Except.ok (_ :: _ :: m)) hmid
  | stream =>
    have hlt : s.used.toNat - s.tkl.toNat < 4294967296 := by omega
    simp only [hdrEncode, headerBytes, hp]
    generalize s.used.toNat - s.tkl.toNat = c at *
    by_cases h4 : c ≤ 65804
    · have hnib (h12 : c ≤ 12) : c % 16 = c := Nat.mod_eq_of_lt (by omega)
      simp only [extEncHdr, extEnc, h4, if_true]
      split_ifs with h12
      · simp [packNibbles_eq_ofNat, hnib h12]
      · simp [packNibbles_eq_ofNat]
      · simp [packNibbles_eq_ofNat, be16bytes]
    · rw [extEncHdr, if_neg h4, if_pos (by omega), if_neg (by omega), if_neg (by omega), if_neg h4]
      simp [packNibbles_eq_ofNat, be32bytes]

theorem hdrReserve_toNat (p : Transport) : (hdrReserve p).toNat = reserve p := by cases p <;> rfl

/-- The reservation of the class holds every header of the class (R27). -/
theorem headerBytes_length_le (s : State) : (headerBytes s).length ≤ reserve s.proto := by
  unfold headerBytes
  cases s.proto with
  | dgram => exact le_rfl
  | stream => dsimp only; split_ifs <;> simp [reserve]

/-! ### ENCODE_HDR (R153) -/

/-- Where the header does not fit. -/
theorem exec_encodeHdr_noSpace {s : State} (h : s.maxHdr.toNat < (headerBytes s).length) :
    exec .encodeHdr s = .next (s.raise .headerSpace) := by
  change execEncodeHdr s = _
  simp only [execEncodeHdr, hdrEncode_eq_headerBytes, if_pos h]

/-- Where the header fits. -/
theorem exec_encodeHdr_fits {s : State} (h : (headerBytes s).length ≤ s.maxHdr.toNat) :
    exec .encodeHdr s = .next ((s.putHeader (headerBytes s)).finish (headerBytes s).length
      (s.maxHdr.toNat - (headerBytes s).length) ((headerBytes s).length + s.used.toNat) 0) := by
  change execEncodeHdr s = _
  simp only [execEncodeHdr, hdrEncode_eq_headerBytes, if_neg h.not_gt]

/-- The header stored reads back. -/
theorem State.putHeader_memRead (s : State) (r : List Byte) : (s.putHeader r).memRead (s.maxHdr.toNat - r.length) r.length = r :=
  State.readBytes_eq fun _ hi => Memory.read_writeBytes_inside _ _ _ hi

section
variable {s : State} {r : List Byte} (h : r.length ≤ s.maxHdr.toNat)
include h

theorem State.putHeader_hdrSize_toNat : (s.putHeader r).hdrSize.toNat = r.length := by
  rw [State.putHeader_hdrSize, BitVec.toNat_ofNat, Nat.mod_eq_of_lt (by omega)]

/-- Only the header's bytes are stored. -/
theorem State.putHeader_read_outside {x : Nat}
    (hx : x < storeBase + (s.maxHdr.toNat - r.length) ∨ storeBase + s.maxHdr.toNat ≤ x) :
    (s.putHeader r).mem.read x = s.mem.read x :=
  Memory.read_writeBytes_outside _ _ _ (by omega)

/-- Once the header is stored the frame is the header and the body (R154). -/
theorem State.putHeader_frame : (s.putHeader r).frame = r ++ s.body := by
  rw [← (State.putHeader_keepsBody h).body_eq]
  exact State.frame_eq (State.putHeader_hdrSize_toNat h) h fun _ hi => Memory.read_writeBytes_inside _ _ _ hi

end

@[simp] theorem State.finish_frame (s : State) (r0 r1 r2 r3 : Nat) : (s.finish r0 r1 r2 r3).frame = s.frame :=
  State.finish_readBytes ..

/-- Under the invariant ENCODE_HDR cannot fail (R27, R153). -/
theorem State.Inv.headerBytes_fits {s : State} (h : s.Inv) : (headerBytes s).length ≤ s.maxHdr.toNat := by
  rw [h.reserve, hdrReserve_toNat]
  exact headerBytes_length_le s

/-- The body is the token, the options, and a marker and the payload if there is one (R39, R182). -/
theorem State.Inv.body_eq {s : State} (h : s.Inv) {os : List Opt} {p : List Byte} (hc : s.contents = some (os, p)) :
    s.body = s.token ++ (encodeOptions os ++ payloadPart p) := by
  rw [← rebuildRest_eq, ← (h.of_contents hc).2, State.token_append_rest]

end Sys2Proof.Machine

open Sys2Proof Sys2Proof.Machine Sys2Proof.Spec

/-- Settles O39: the encoder's header is R142's, which its class's reservation holds. -/
theorem encodeHdrWritesTheHeader : Obligations.EncodeHdrWritesTheHeader := by
  intro s h
  refine ⟨fun hres => hres ▸ headerBytes_length_le s, exec_encodeHdr_noSpace, fun hfit => ?_⟩
  exact ⟨_, exec_encodeHdr_fits hfit, rfl, State.putHeader_hdrSize_toNat hfit,
    (State.finish_readBytes ..).trans (State.putHeader_memRead s h), fun x hx => State.putHeader_read_outside hfit hx⟩

/-- Settles O40: the header was stored right before the body, which is the token, the options and the payload. -/
theorem encodedFrameIsTheWholeMessage : Obligations.EncodedFrameIsTheWholeMessage := by
  intro s t h ht
  obtain ⟨os, p, hc, -⟩ := h.body_ok
  have hfit := h.headerBytes_fits
  rw [exec_encodeHdr_fits hfit] at ht
  cases ht
  have hsize := State.putHeader_hdrSize_toNat hfit
  have hend := h.end_lt
  refine ⟨os, p, hc, rfl, ?_, ?_⟩
  · simp only [State.frame, State.finish_maxHdr, State.finish_hdrSize, State.finish_used, State.finish_res1, State.finish_res2,
      hsize, BitVec.toNat_ofNat]
    rw [Nat.mod_eq_of_lt (by omega), Nat.mod_eq_of_lt (by omega)]
    rfl
  · rw [State.finish_frame, State.putHeader_frame hfit, h.body_eq hc, List.append_assoc, List.append_assoc]
    rfl
end

section
/-! PROOF. PARSE (40_header_codec R152): its answers in the order of its checks and the frame it stores; and the frame round trip
(R155). -/

namespace Sys2Proof.Machine

open Sys2Proof.Spec

/-! ### The answers of PARSE (R152) -/

section
variable {s : State} {p : Transport}

theorem exec_parse_badArgument (h : s.cfg.inbufBytes.toNat < s.arg0.toNat) :
    exec (.parse p) s = .next (s.raise .badArgument) := by
  change execParse p s = _
  rw [execParse, if_pos (s.not_countOk_iff.mpr h)]

variable (hcount : s.arg0.toNat ≤ s.cfg.inbufBytes.toNat)
include hcount

theorem exec_parse_headerError {c : Completion} (hd : s.readHeader p s.bytes0 = .error c) :
    exec (.parse p) s = .next (s.raise c) := by
  change execParse p s = _
  simp only [execParse, if_neg (s.not_countOk_iff.not.mpr hcount.not_gt), hd]

theorem exec_parse_header {h : Header} (hd : s.readHeader p s.bytes0 = .ok h) :
    exec (.parse p) s = .next (s.parseBody p s.bytes0 h) := by
  change execParse p s = _
  simp only [execParse, if_neg (s.not_countOk_iff.not.mpr hcount.not_gt), hd]

end

section
variable {s : State} {p : Transport} {b : List Byte} {h : Header}

theorem State.parseBody_truncated (ht : frameTruncated p b.length h = true) :
    s.parseBody p b h = s.raise .malformedHeader := if_pos ht

variable (ht : frameTruncated p b.length h = false)
include ht

theorem State.parseBody_badOptions (ho : decodeOptions ((parsedBody p b h).drop h.tkl) = none) :
    s.parseBody p b h = s.raise .malformedOption := by
  rw [parsedBody] at ho
  simp only [State.parseBody, ht, ho, Bool.false_eq_true, if_false]

variable {os : List Opt} {pl : List Byte} (ho : decodeOptions ((parsedBody p b h).drop h.tkl) = some (os, pl))
include ho

theorem State.parseBody_tooLong (hl : s.limit < (parsedBody p b h).length) :
    s.parseBody p b h = s.raise .sizeExceeded := by
  rw [parsedBody] at ho hl
  simp only [State.parseBody, ht, ho, if_pos hl, Bool.false_eq_true, if_false]

variable (hl : (parsedBody p b h).length ≤ s.limit)
include hl

theorem State.parseBody_refused {d : Nat} (hg : s.grow (parsedBody p b h).length = ⟨none, d⟩) :
    s.parseBody p b h = (s.drawn d).raise .allocFailure := by
  rw [parsedBody] at ho hl hg
  simp only [State.parseBody, ht, ho, if_neg hl.not_gt, hg, Bool.false_eq_true, if_false]

theorem State.parseBody_stored {a d : Nat} (hg : s.grow (parsedBody p b h).length = ⟨some a, d⟩) :
    s.parseBody p b h = ((s.drawn d).putFrame p h (b.take h.hs) (parsedBody p b h) a).finish
      (frameLength p b.length h) (parsedBody p b h).length os.length pl.length := by
  rw [parsedBody] at ho hl hg
  simp only [State.parseBody, ht, ho, if_neg hl.not_gt, hg, Bool.false_eq_true, if_false]
  rfl

end

/-! ### The stored frame (R152) -/

/-- The registers' widths hold a parsed frame's sizes (R28, R45, R103). -/
theorem toNat_parsed_sizes {s : State} {m : Nat} {c : Bool} {p : Transport} {b : List Byte} {h : Header}
    (hd : hdrDecode m c p b = .ok h) (ht : frameTruncated p b.length h = false) (hl : (parsedBody p b h).length ≤ s.limit) :
    (BitVec.ofNat 3 h.hs).toNat = h.hs ∧ (BitVec.ofNat 4 h.tkl).toNat = h.tkl ∧
      (BitVec.ofNat 32 (parsedBody p b h).length).toNat = (parsedBody p b h).length := by
  obtain ⟨-, hfit⟩ := hdrDecode_hs hd
  have hres := hdrReserve_le p
  refine ⟨?_, toNat_tkl (parsedBody_token hd ht).1, State.toNat_size (.inl hl)⟩
  rw [BitVec.toNat_ofNat, Nat.mod_eq_of_lt (by omega)]

/-- A whole frame holds its header. -/
theorem header_length_of_whole {m : Nat} {c : Bool} {p : Transport} {b : List Byte} {h : Header}
    (hd : hdrDecode m c p b = .ok h) (ht : frameTruncated p b.length h = false) : (b.take h.hs).length = h.hs := by
  obtain ⟨-, hsum, hle, -⟩ := hdrDecode_fields hd ht
  rw [List.length_take, min_eq_left (by omega)]

section
variable (s : State) (p : Transport) {h : Header} {hdr body : List Byte} (a : Nat)

/-- PARSE stores nothing below the header (R152). -/
theorem State.putFrame_read_below (hlen : hdr.length = h.hs) (hfit : h.hs ≤ (hdrReserve p).toNat) {x : Nat}
    (hx : x < storeBase + ((hdrReserve p).toNat - h.hs)) : (s.putFrame p h hdr body a).mem.read x = s.mem.read x := by
  rw [State.putFrame_mem, Memory.storeForget, Memory.read_dropFrom_below _ (by omega), Memory.memWrite,
    Memory.read_writeBytes_outside _ _ _ (.inl (by omega))]
  exact Memory.read_writeBytes_outside _ _ _ (.inl hx)

/-- Nothing is held after the body PARSE stores (R38). -/
theorem State.putFrame_read_after {x : Nat} (hx : storeBase + (hdrReserve p).toNat + body.length ≤ x) :
    (s.putFrame p h hdr body a).mem.read x = none := by
  rw [State.putFrame_mem, Memory.storeForget]
  exact Memory.read_dropFrom_from _ (by omega)

variable (hused : (s.putFrame p h hdr body a).used.toNat = body.length)
include hused

/-- The views of the body PARSE stores are those of its bytes. -/
theorem State.putFrame_contents (htkl : (s.putFrame p h hdr body a).tkl.toNat = h.tkl) :
    (s.putFrame p h hdr body a).contents = decodeOptions (body.drop h.tkl) := by
  rw [State.contents, State.rest, State.putFrame_body s p a hused, htkl]

/-- The header PARSE stores reads back (R152). -/
theorem State.putFrame_memRead_header (hlen : hdr.length = h.hs) (hfit : h.hs ≤ (hdrReserve p).toNat)
    (hsize : (s.putFrame p h hdr body a).hdrSize.toNat = h.hs) :
    (s.putFrame p h hdr body a).memRead ((hdrReserve p).toNat - h.hs) h.hs = hdr := by
  have hframe := State.putFrame_frame s p a hused hlen hfit hsize
  rw [State.frame, State.memRead, State.readBytes_add, hsize] at hframe
  exact List.append_inj_left hframe (by rw [State.memRead_length, hlen])

end

/-! ### Size check and growth (R230, R231) -/

theorem State.ceiling_eq_limit (s : State) : ceiling s = s.limit := by
  have hzero : s.maxSize.toNat ≠ 0 ↔ ¬s.maxSize = 0 := by rw [← BitVec.toNat_inj]; rfl
  rw [ceiling, State.limit, if_congr hzero rfl rfl, ite_not]

/-- A result that follows the size check and Grow's answer is one of R230's outcomes. -/
theorem State.commitsOrFails {s : State} {r : Result} {n : Nat} {good : State → Prop}
    (hbig : s.limit < n → r = .next (s.raise .sizeExceeded))
    (hnone : n ≤ s.limit → ∀ d, s.grow n = ⟨none, d⟩ → r = .next ((s.drawn d).raise .allocFailure))
    (hsome : n ≤ s.limit → ∀ a d, s.grow n = ⟨some a, d⟩ →
      ∃ t, r = .next t ∧ t.alloc = BitVec.ofNat 32 a ∧ t.draws = d ∧ good t) : CommitsOrFails s r n good := by
  rw [CommitsOrFails, s.ceiling_eq_limit]
  split
  next hl => exact hbig hl
  next hl =>
  replace hl := Nat.not_lt.mp hl
  split
  next hkept =>
    obtain ⟨t, hr, ha, hd, hgood⟩ := hsome hl _ _ (State.grow_kept hkept)
    exact ⟨t, hr, by rw [ha, BitVec.ofNat_toNat, BitVec.setWidth_eq], hd, hgood⟩
  next hmore =>
  split
  next hstore => exact hnone hl _ (State.grow_too_big (Nat.not_le.mp hmore) hstore)
  next hstore =>
  rcases hg : s.grow n with ⟨_ | a, d⟩
  · obtain ⟨-, ⟨h, -⟩ | ⟨hok, rfl⟩⟩ := State.grow_none hg
    · exact absurd h hstore
    · rw [hok, if_neg (by decide)]
      exact hnone hl _ hg
  · obtain ⟨h, -⟩ | ⟨-, hneed, hal, has, hok, rfl⟩ := State.grow_some hl hg
    · exact absurd h hmore
    · obtain ⟨t, hr, ha, hd, hgood⟩ := hsome hl _ _ hg
      have halloc : t.alloc.toNat = a := by rw [ha]; exact State.toNat_size (.inl hal)
      rw [if_pos hok]
      exact ⟨t, hr, hneed.trans_eq halloc.symm, halloc.trans_le hal, halloc.trans_le has, hd, hgood⟩

/-! ### A frame in INBUF (R152, R155) -/

/-- A datagram stops short where it ends before its token (R152). -/
theorem frameTruncated_dgram_iff {m : Nat} {c : Bool} {b : List Byte} {h : Header} (hd : hdrDecode m c .dgram b = .ok h) :
    frameTruncated .dgram b.length h = true ↔ b.length < 4 + h.tkl := by
  obtain ⟨b0, b1, b2, b3, bs, rfl, -, -⟩ := exists_of_hdrDecode_dgram hd
  simp only [frameTruncated, decide_eq_true_eq, List.length_cons]
  omega

/-- A frame that holds all that its header declares does not stop short (R152). -/
theorem frameTruncated_of_total {m : Nat} {c : Bool} {p : Transport} {b : List Byte} {h : Header} (hd : hdrDecode m c p b = .ok h)
    (htotal : h.total = b.length) (htkl : h.hs + h.tkl ≤ b.length) :
    frameTruncated p b.length h = false ∧ frameLength p b.length h = b.length := by
  cases p with
  | dgram =>
    rw [(hdrDecode_dgram_ok hd).1] at htkl
    exact ⟨decide_eq_false (by omega), rfl⟩
  | stream => exact ⟨decide_eq_false (by omega), htotal⟩

/-- A frame standing in INBUF, counted by ARG0, is what PARSE reads (R71, R152). -/
theorem State.bytes0_eq {s : State} {b : List Byte} (hcount : s.arg0.toNat = b.length)
    (hread : ∀ i (h : i < b.length), s.mem.read (inbufBase + i) = some b[i]) : s.bytes0 = b := by
  rw [State.bytes0, State.inRead, State.a0, hcount]
  exact State.readBytes_eq hread

/-- A need that ALLOC or the store covers is granted where the oracle allows it (R231). -/
theorem State.grow_granted {s : State} {need : Nat} (hstore : need ≤ s.cfg.storeBytes.toNat)
    (h : need ≤ s.alloc.toNat ∨ Config.allocOk s.draws = true) : ∃ a d, s.grow need = ⟨some a, d⟩ := by
  rcases hg : s.grow need with ⟨_ | a, d⟩
  · obtain ⟨hmore, ⟨hbig, -⟩ | ⟨hno, -⟩⟩ := State.grow_none hg
    · omega
    · rcases h with hkept | hok
      · omega
      · simp [hno] at hok
  · exact ⟨a, d, rfl⟩

/-- On STREAM nothing but zero stands in TYPE and MID (R31). -/
theorem State.Inv.onDgram_fields {s : State} (h : s.Inv) :
    onDgram s.proto s.msgType = s.msgType ∧ onDgram s.proto s.msgId = s.msgId := by
  cases hp : s.proto with
  | dgram => exact ⟨rfl, rfl⟩
  | stream =>
    obtain ⟨htype, hid⟩ := h.stream_zero hp
    exact ⟨htype.symm, hid.symm⟩

theorem onDgram_onDgram (p : Transport) {w : Nat} (v : BitVec w) : onDgram p (onDgram p v) = onDgram p v := by cases p <;> rfl

/-- The header that a message encodes to, read back from the whole frame: whole, with the message's fields, before its body. -/
structure State.ReadBack (s : State) (h : Header) : Prop where
  hs : h.hs = (headerBytes s).length
  tkl : h.tkl = s.tkl.toNat
  code : h.code = some s.msgCode
  type : onDgram s.proto h.type = s.msgType
  mid : onDgram s.proto h.mid = s.msgId
  whole : frameTruncated s.proto (headerBytes s ++ s.body).length h = false
  body : parsedBody s.proto (headerBytes s ++ s.body) h = s.body

/-- R143 for the frame of a message. -/
theorem State.Inv.exists_readBack {s u : State} (h : s.Inv) (hmax : (headerBytes s ++ s.body).length ≤ u.cfg.maxRecv.toNat) :
    ∃ hd, u.readHeader s.proto (headerBytes s ++ s.body) = .ok hd ∧ s.ReadBack hd := by
  have htkl := h.token_used
  obtain ⟨hd, hdec, hhs, htk, hcode, hty, hmid, -, htotal, -⟩ :=
    hdrDecode_hdrEncode_within (body := s.body) (hdrEncode_eq_headerBytes s) h.token_le (by rw [State.body_length]; omega) hmax
      u.cfg.checkVersion
  obtain ⟨hwhole, hlen⟩ := frameTruncated_of_total hdec htotal (by rw [hhs, htk, List.length_append, State.body_length]; omega)
  obtain ⟨htype, hid⟩ := h.onDgram_fields
  refine ⟨hd, hdec, hhs, htk, hcode, ?_, ?_, hwhole, ?_⟩
  · rw [hty, onDgram_onDgram, htype]
  · rw [hmid, onDgram_onDgram, hid]
  · rw [parsedBody, hlen, List.take_length, hhs, List.drop_left]

/-- Storing the body under the header read back leaves the message (R155). -/
theorem State.ReadBack.stored {s : State} {h : Header} (hb : s.ReadBack h) (u : State) (hdr : List Byte) (a r0 r1 r2 r3 : Nat) :
    let t := (u.putFrame s.proto h hdr s.body a).finish r0 r1 r2 r3
    t.tkl = s.tkl ∧ t.msgCode = s.msgCode ∧ t.used = s.used ∧ t.body = s.body ∧ t.token = s.token ∧
      t.contents = s.contents ∧ t.msgType = s.msgType ∧ t.msgId = s.msgId := by
  intro t
  have htkl : t.tkl = s.tkl := (congrArg (BitVec.ofNat 4) hb.tkl).trans (by simp)
  have hused : t.used = s.used := (congrArg (BitVec.ofNat 32) s.body_length).trans (by simp)
  have hcode : t.msgCode = s.msgCode := congrArg (Option.getD · 0) hb.code
  have hbody : t.body = s.body := by
    rw [State.finish_body]
    exact State.putFrame_body u s.proto a ((congrArg BitVec.toNat hused).trans s.body_length.symm)
  refine ⟨htkl, hcode, hused, hbody, ?_, ?_, hb.type, hb.mid⟩
  · rw [State.token, hbody, htkl, State.token]
  · rw [State.contents, State.rest, hbody, htkl, State.contents, State.rest]

end Sys2Proof.Machine

open Sys2Proof Sys2Proof.Machine Sys2Proof.Spec

/-- Settles O38: each check of PARSE in its order, and the stored frame read back. -/
theorem parseStoresTheFrame : Obligations.ParseStoresTheFrame := by
  intro p s
  refine ⟨exec_parse_badArgument, fun hcount => ?_⟩
  intro n b
  refine ⟨fun c hd => exec_parse_headerError hcount hd, fun h (hd : s.readHeader p s.bytes0 = .ok h) => ?_⟩
  intro f short body
  have hlen : s.bytes0.length = n := s.bytes0_length
  have hbody : body = parsedBody p s.bytes0 h := by cases p <;> simp only [body, f, parsedBody, frameLength, hlen] <;> rfl
  have hf : f = frameLength p s.bytes0.length h := by cases p <;> simp only [f, frameLength, hlen]
  have hshort : short ↔ frameTruncated p s.bytes0.length h = true := by
    cases p with
    | dgram => rw [frameTruncated_dgram_iff hd, hlen]
    | stream => simp only [short, frameTruncated, decide_eq_true_eq, hlen]
  rw [exec_parse_header hcount hd, hshort, Bool.not_eq_true, hbody, hf]
  clear_value f short body
  refine ⟨fun ht => congrArg _ (State.parseBody_truncated ht), fun ht ho => congrArg _ (State.parseBody_badOptions ht ho),
    fun ht os pl ho => ?_⟩
  refine State.commitsOrFails (fun hl => congrArg _ (State.parseBody_tooLong ht ho hl))
    (fun hl d hg => congrArg _ (State.parseBody_refused ht ho hl hg)) fun hl a d hg => ?_
  obtain ⟨hhs, htkl, hused⟩ := toNat_parsed_sizes hd ht hl
  obtain ⟨-, hfit⟩ := hdrDecode_hs hd
  obtain ⟨-, -, -, hcode, -, -⟩ := hdrDecode_fields hd ht
  have hhdr := header_length_of_whole hd ht
  refine ⟨_, congrArg _ (State.parseBody_stored ht ho hl hg), rfl, rfl, hcode, ?_, hhs, htkl, hused,
    ?_, ?_, ?_, fun x hx => ?_⟩
  · cases p <;> rfl
  · rw [← hdrReserve_toNat]
    exact (State.finish_readBytes ..).trans (State.putFrame_memRead_header (s.drawn d) p a hused hhdr hfit hhs)
  · exact (State.finish_body ..).trans (State.putFrame_body (s.drawn d) p a hused)
  · rw [State.finish_contents, State.putFrame_contents (s.drawn d) p a hused htkl, ho]
  · rw [← hdrReserve_toNat] at hx
    exact State.putFrame_read_below (s.drawn d) p a hhdr hfit hx

/-- Settles O58, by the answers of ENCODE_HDR and PARSE. -/
theorem framingCommandsStoreOnlyTheFrame : Obligations.FramingCommandsStoreOnlyTheFrame := by
  intro s t
  refine ⟨fun ht => ?_, fun p ht => ?_⟩
  · by_cases hfit : (headerBytes s).length ≤ s.maxHdr.toNat
    case neg =>
      rw [exec_encodeHdr_noSpace (Nat.not_le.mp hfit)] at ht
      cases ht
      exact ⟨rfl, fun _ _ => rfl⟩
    rw [exec_encodeHdr_fits hfit] at ht
    cases ht
    refine ⟨rfl, fun x hx => State.putHeader_read_outside hfit ?_⟩
    rwa [State.finish_hdrSize, State.putHeader_hdrSize_toNat hfit] at hx
  · obtain ⟨c, d, -, rfl⟩ | ⟨h, payload, hd, hwhole, -, hl, a, d, r0, r1, r2, rfl⟩ := execParse_cases ht
    · exact ⟨rfl, fun _ _ => rfl, .inl rfl⟩
    obtain ⟨hhs, -, hused⟩ := toNat_parsed_sizes hd hwhole hl
    obtain ⟨-, hfit⟩ := hdrDecode_hs hd
    refine ⟨rfl, fun x hx => ?_, .inr fun x hx => ?_⟩
    · rw [State.finish_hdrSize, State.putFrame_hdrSize, hhs] at hx
      exact State.putFrame_read_below (s.drawn d) p a (header_length_of_whole hd hwhole) hfit hx
    · rw [State.finish_used, State.putFrame_used, hused] at hx
      exact State.putFrame_read_after (s.drawn d) p a hx

/-- Settles O41: the frame is the encoded header and the body; the header reads back, so PARSE stores the same body. -/
theorem frameRoundTrip : Obligations.FrameRoundTrip := by
  intro s s1 s2 h ht hcfg hcount hinbuf hmax hread hlimit hgrant
  rw [exec_encodeHdr_fits h.headerBytes_fits] at ht
  cases ht
  rw [State.finish_frame, State.putHeader_frame h.headerBytes_fits] at hcount hinbuf hmax
  simp only [State.finish_frame, State.putHeader_frame h.headerBytes_fits] at hread
  have hbytes := State.bytes0_eq hcount hread
  obtain ⟨hd, hdec, hback⟩ := h.exists_readBack (u := s2) (hcfg ▸ hmax)
  obtain ⟨os, p, hc, -⟩ := h.body_ok
  have hopts : decodeOptions ((parsedBody s.proto (headerBytes s ++ s.body) hd).drop hd.tkl) = some (os, p) := by
    rw [hback.body, hback.tkl]; exact hc
  have hstore : s.used.toNat ≤ s2.cfg.storeBytes.toNat := hcfg ▸ h.used_alloc.trans h.alloc_store
  obtain ⟨a, d, hg⟩ := State.grow_granted hstore hgrant
  rw [s2.ceiling_eq_limit, ← State.body_length, ← hback.body] at hlimit
  rw [← State.body_length, ← hback.body] at hg
  rw [exec_parse_header (hcount.trans_le (hcfg ▸ hinbuf)) (hbytes.symm ▸ hdec), hbytes,
    State.parseBody_stored hback.whole hopts hlimit hg, hback.body]
  exact ⟨_, rfl, rfl, hback.stored ..⟩
end

section
/-! PROOF. The option codec as statements of its own (41_option_codec R183 to R188): the round trip, the length of an entry, what
removing an entry does to the length, and the insert position. -/

namespace Sys2Proof.Machine

/-! ### Lengths (R183, R187) -/

/-- The extension bytes of a delta or length (R183). -/
theorem extForm_length_eq {v : Nat} (h : v ≤ 65535) : (extForm v).2.length = if v ≤ 12 then 0 else if v ≤ 268 then 1 else 2 := by
  unfold extForm extEnc
  split
  · rfl
  split
  · rfl
  · rw [if_pos (by omega)]; rfl

/-- A sum of two deltas takes at most one extension byte more than they take together (R187). -/
theorem extForm_add_length_le {d e : Nat} (h : d + e ≤ 65535) :
    (extForm (d + e)).2.length ≤ 1 + (extForm d).2.length + (extForm e).2.length := by
  rw [extForm_length_eq h, extForm_length_eq (by omega), extForm_length_eq (by omega)]
  split_ifs <;> omega

/-- Without the first entry the next one takes over its delta, in no more bytes than both took (R186, R187). -/
theorem encodeOptionsFrom_skip_length_le {num n : Nat} {v : List Byte} {os : List Opt} (h : optsOkFrom num ((n, v) :: os)) :
    (encodeOptionsFrom num os).length ≤ (encodeOptionsFrom num ((n, v) :: os)).length := by
  obtain ⟨⟨hn, -, -⟩, hos⟩ := (optsOkFrom_cons_iff ..).mp h
  cases os with
  | nil => exact Nat.zero_le _
  | cons o os =>
    obtain ⟨m, w⟩ := o
    obtain ⟨⟨hm, hmax, -⟩, -⟩ := (optsOkFrom_cons_iff ..).mp hos
    have hsum : m - num = (n - num) + (m - n) := by omega
    have hext := extForm_add_length_le (d := n - num) (e := m - n) (by omega)
    simp only [encodeOptionsFrom, List.length_append, encodeEntry_length, entryLen, hsum]
    omega

/-- Removing any entry never lengthens the options (R187). -/
theorem encodeOptionsFrom_eraseIdx_length_le {num : Nat} {os : List Opt} (h : optsOkFrom num os) (j : Nat) :
    (encodeOptionsFrom num (os.eraseIdx j)).length ≤ (encodeOptionsFrom num os).length := by
  induction os generalizing num j with
  | nil => simp
  | cons o os ih =>
    obtain ⟨n, v⟩ := o
    cases j with
    | zero => exact encodeOptionsFrom_skip_length_le h
    | succ j =>
      have hle := ih ((optsOkFrom_cons_iff ..).mp h).2 j
      simp only [List.eraseIdx_cons_succ, encodeOptionsFrom, List.length_append]
      omega

/-- R187. -/
theorem rebuildRest_eraseIdx_length_le {os : List Opt} (h : optsOk os) (p : List Byte) (j : Nat) :
    (rebuildRest (os.eraseIdx j) p).length ≤ (rebuildRest os p).length := by
  have hle := encodeOptionsFrom_eraseIdx_length_le ((optsOkFrom_zero_iff os).mpr h) j
  simp only [rebuildRest, encodeOptions, List.length_append]
  omega

/-! ### The insert position (R185) -/

theorem insertPos_le_length (os : List Opt) (n : Nat) : insertPos os n ≤ os.length := List.findIdx_le_length

/-- The entry at the insert position has a greater number, in any list. -/
theorem lt_of_getElem?_insertPos {os : List Opt} {n : Nat} {o : Opt} (h : os[insertPos os n]? = some o) : n < o.1 := by
  obtain ⟨hlt, rfl⟩ := List.getElem?_eq_some_iff.mp h
  exact of_decide_eq_true (List.findIdx_getElem (p := fun o : Opt => decide (n < o.1)) (w := hlt))

end Sys2Proof.Machine

open Sys2Proof Sys2Proof.Machine

/-- Settles O10, from both directions of R184. -/
theorem optionsRoundTrip : Obligations.OptionsRoundTrip :=
  ⟨fun _ p h => decodeOptions_rebuildRest h p, fun _ _ _ h => rebuildRest_of_decodeOptions h⟩

/-- Settles O11, from the length of an entry and of an extension. -/
theorem entryLength : Obligations.EntryLength := ⟨encodeEntry_length, fun _ => extForm_length_eq⟩

/-- Settles O12: the entry after the removed one takes over its delta. -/
theorem removingNeverLengthens : Obligations.RemovingNeverLengthens := fun _ p j h _ => rebuildRest_eraseIdx_length_le h p j

/-- Settles O13, from the entries before and after the position. -/
theorem insertPosition : Obligations.InsertPosition := fun os n =>
  ⟨insertPos_le_length os n, fun _ => le_of_mem_take_insertPos, fun _ => lt_of_getElem?_insertPos,
    fun _ h hn hv => optsOk_insertAt h hn hv⟩
end

section
/-! PROOF. The commands that change the options (41_option_codec R190 to R193): operand checks, and CommitBody (43_message_manager
R230) of the changed list. -/

namespace Sys2Proof.Machine

open Sys2Proof.Spec

/-! ### CommitBody (R230) -/

section
variable {s : State} {nb : List Byte}

theorem State.commitBody_tooLong (hl : s.limit < nb.length) (ntkl r0 r1 : Nat) :
    s.commitBody nb ntkl r0 r1 = s.raise .sizeExceeded := if_pos hl

variable (hl : nb.length ≤ s.limit)
include hl

theorem State.commitBody_refused {d : Nat} (hg : s.grow nb.length = ⟨none, d⟩) (ntkl r0 r1 : Nat) :
    s.commitBody nb ntkl r0 r1 = (s.drawn d).raise .allocFailure := by
  rw [State.commitBody, if_neg hl.not_gt, hg]

theorem State.commitBody_stored {a d : Nat} (hg : s.grow nb.length = ⟨some a, d⟩) (ntkl r0 r1 : Nat) :
    s.commitBody nb ntkl r0 r1 = ((s.drawn d).putBody nb ntkl a).finish r0 r1 0 0 := by
  rw [State.commitBody, if_neg hl.not_gt, hg]

/-- A stored body reads back, and nothing else has changed but what R230 names. -/
theorem State.putBody_committed (d ntkl a r0 r1 : Nat) :
    Committed s nb ntkl r0 r1 (((s.drawn d).putBody nb ntkl a).finish r0 r1 0 0) := by
  refine ⟨rfl, State.toNat_size (.inl hl), ?_, fun x hx => State.putBody_read_below (s := s.drawn d) nb ntkl a hx⟩
  rw [State.finish_body]
  exact State.putBody_body (hl.trans_lt s.limit_lt) ntkl a

end

/-- Every outcome of a command that ends in CommitBody (R230, R231). -/
theorem State.commitBody_commitsOrFails (s : State) (nb : List Byte) (ntkl r0 r1 : Nat) :
    CommitsOrFails s (.next (s.commitBody nb ntkl r0 r1)) nb.length (Committed s nb ntkl r0 r1) :=
  State.commitsOrFails (fun hl => congrArg _ (State.commitBody_tooLong hl ntkl r0 r1))
    (fun hl _ hg => congrArg _ (State.commitBody_refused hl hg ntkl r0 r1))
    fun hl a d hg => ⟨_, congrArg _ (State.commitBody_stored hl hg ntkl r0 r1), rfl, rfl, State.putBody_committed hl d ntkl a r0 r1⟩

/-! ### Operands (R190, D38) -/

/-- The operand check of the inserting commands, as R190 has it. -/
theorem State.optionArgsOk_iff (s : State) : s.optionArgsOk = true ↔
    ¬(65535 < s.arg0.toNat ∨ 65535 < s.arg1.toNat ∨ s.cfg.inbufBytes.toNat < s.arg1.toNat) := by
  simp only [State.optionArgsOk, State.numberArgOk, State.countOk, Bool.and_eq_true, decide_eq_true_eq, not_or, Nat.not_lt]
  rfl

theorem State.numberArgOk_iff (s : State) : s.numberArgOk = true ↔ ¬65535 < s.arg0.toNat := by
  simp only [State.numberArgOk, decide_eq_true_eq, Nat.not_lt]
  rfl

/-- An operand out of range fails each inserting command (R190 to R192). -/
theorem exec_optionArgs_bad {s : State}
    (hbad : 65535 < s.arg0.toNat ∨ 65535 < s.arg1.toNat ∨ s.cfg.inbufBytes.toNat < s.arg1.toNat) {i : Instr}
    (hi : i = .addOption ∨ i = .insertOption ∨ i = .updateOption) : exec i s = .next (failed s .badArgument) := by
  have hargs : (!s.optionArgsOk) = true := by
    rw [Bool.not_eq_true', ← Bool.not_eq_true, s.optionArgsOk_iff, not_not]; exact hbad
  rcases hi with rfl | rfl | rfl <;> exact if_pos hargs

/-- A number out of range fails REMOVE_OPTION (R193). -/
theorem exec_removeOption_badArgument {s : State} (hbad : 65535 < s.arg0.toNat) :
    exec .removeOption s = .next (failed s .badArgument) := by
  have hargs : (!s.numberArgOk) = true := by
    rw [Bool.not_eq_true', ← Bool.not_eq_true, s.numberArgOk_iff, not_not]; exact hbad
  exact if_pos hargs

/-! ### The answers of the commands over a body that decodes -/

/-- The number before an index, by the last entry of the part before it (R190). -/
theorem lastFrom_zero_eq_lastNumber (os : List Opt) : lastFrom 0 os = lastNumber os := by
  unfold lastFrom lastNumber
  cases os.getLast? <;> rfl

theorem prevNumber_eq_lastNumber (os : List Opt) (k : Nat) : prevNumber os k = lastNumber (os.take k) :=
  lastFrom_zero_eq_lastNumber (os.take k)

section
variable {s : State} {os : List Opt} {p : List Byte} (hc : s.contents = some (os, p))
include hc

theorem exec_insertOption_of_contents (hargs : s.optionArgsOk = true) :
    exec .insertOption s = .next (s.insertSorted os p) := by
  change execInsertOption s = _
  rw [execInsertOption, if_neg (by simp [hargs]), State.withContents_some hc]

theorem exec_addOption_of_contents (hargs : s.optionArgsOk = true) :
    exec .addOption s = .next (if dataPresent p then s.raise .invalidOrder else s.insertSorted os p) := by
  change execAddOption s = _
  rw [execAddOption, if_neg (by simp [hargs]), State.withContents_some hc]

theorem exec_updateOption_replaces (hargs : s.optionArgsOk = true) {j : Nat} (hj : firstWith os s.a0 = some j) :
    exec .updateOption s = .next (s.commitBody (s.token ++ rebuildRest (replaceOrInsert os s.a0 s.bytes1) p) s.tkl.toNat
      (entryLen (s.a0 - prevNumber os j) s.a1) 0) := by
  change execUpdateOption s = _
  rw [execUpdateOption, if_neg (by simp [hargs]), State.withContents_some hc, hj, replaceOrInsert_of_some hj]

theorem exec_updateOption_inserts (hargs : s.optionArgsOk = true) (hj : firstWith os s.a0 = none) :
    exec .updateOption s = .next (s.insertSorted os p) := by
  change execUpdateOption s = _
  rw [execUpdateOption, if_neg (by simp [hargs]), State.withContents_some hc, hj]

theorem exec_removeOption_absent (hargs : s.numberArgOk = true) (hj : firstWith os s.a0 = none) :
    exec .removeOption s = .next (s.raise .notFound) := by
  change execRemoveOption s = _
  rw [execRemoveOption, if_neg (by simp [hargs]), State.withContents_some hc, hj]

theorem exec_removeOption_deletes (hargs : s.numberArgOk = true) {j : Nat} (hj : firstWith os s.a0 = some j) :
    exec .removeOption s = .next (s.commitBody (s.token ++ rebuildRest (os.eraseIdx j) p) s.tkl.toNat
      (s.used.toNat - (s.token ++ rebuildRest (os.eraseIdx j) p).length) 0) := by
  change execRemoveOption s = _
  rw [execRemoveOption, if_neg (by simp [hargs]), State.withContents_some hc, hj]

end

/-- INSERT_OPTION from the logical views on commits the sorted insert (R190). -/
theorem State.insertSorted_commitsOrFails (s : State) (os : List Opt) (p : List Byte) :
    let k := insertPos os s.a0
    let nb := s.token ++ rebuildRest (os.take k ++ (s.a0, s.bytes1) :: os.drop k) p
    CommitsOrFails s (.next (s.insertSorted os p)) nb.length
      (Committed s nb s.tkl.toNat (entryLen (s.a0 - lastNumber (os.take k)) s.a1) 0) := by
  intro k nb
  rw [← prevNumber_eq_lastNumber]
  exact s.commitBody_commitsOrFails nb _ _ 0

/-- A body without one of its entries is no longer (R187). -/
theorem State.Inv.erased_length_le {s : State} (h : s.Inv) {os : List Opt} {p : List Byte} (hc : s.contents = some (os, p))
    (j : Nat) : (s.token ++ rebuildRest (os.eraseIdx j) p).length ≤ s.used.toNat := by
  obtain ⟨hos, hrest⟩ := h.of_contents hc
  have hle := rebuildRest_eraseIdx_length_le hos p j
  have hbody := congrArg List.length s.token_append_rest
  rw [hrest, List.length_append, State.body_length] at hbody
  rw [List.length_append]
  omega

/-- A body no longer than the stored one is committed without the allocator (R45, R231). -/
theorem State.Inv.commitBody_fits {s : State} (h : s.Inv) {nb : List Byte} (hle : nb.length ≤ s.used.toNat) (ntkl r0 r1 : Nat) :
    (s.commitBody nb ntkl r0 r1).alloc = s.alloc ∧ (s.commitBody nb ntkl r0 r1).draws = s.draws ∧
      Committed s nb ntkl r0 r1 (s.commitBody nb ntkl r0 r1) := by
  have hl := hle.trans h.used_limit
  rw [State.commitBody_stored hl (State.grow_kept (hle.trans h.used_alloc))]
  exact ⟨by simp, rfl, State.putBody_committed hl ..⟩

end Sys2Proof.Machine

open Sys2Proof Sys2Proof.Machine Sys2Proof.Spec

/-- Settles O43: the operand check, and CommitBody of the sorted insert. -/
theorem insertOptionCommits : Obligations.InsertOptionCommits := by
  intro s os p hc
  split
  next hbad => exact exec_optionArgs_bad hbad (.inr (.inl rfl))
  next hgood =>
    rw [exec_insertOption_of_contents hc (s.optionArgsOk_iff.mpr hgood)]
    exact s.insertSorted_commitsOrFails os p

/-- Settles O44: INVALID_ORDER after a payload, and otherwise the commit of INSERT_OPTION. -/
theorem addOptionCommitsBeforeAPayload : Obligations.AddOptionCommitsBeforeAPayload := by
  intro s os p hc
  split
  next hbad => exact exec_optionArgs_bad hbad (.inl rfl)
  next hgood =>
    rw [exec_addOption_of_contents hc (s.optionArgsOk_iff.mpr hgood)]
    refine ⟨fun hp => ?_, fun hp => ?_⟩
    · rw [if_pos ((dataPresent_iff p).mpr hp), State.raise_eq_failed]
    · rw [if_neg (by simp [hp])]
      exact s.insertSorted_commitsOrFails os p

/-- Settles O45: the first entry of the number is replaced, and without one both commands insert. -/
theorem updateOptionReplacesTheFirstMatch : Obligations.UpdateOptionReplacesTheFirstMatch := by
  intro s os p hc
  split
  next hbad => exact exec_optionArgs_bad hbad (.inr (.inr rfl))
  next hgood =>
    have hargs := s.optionArgsOk_iff.mpr hgood
    refine ⟨fun j o ho hn hfirst => ?_, fun hnone => ?_⟩
    · have hj : firstWith os s.a0 = some j := firstWith_eq_some_iff.mpr ⟨o, ho, hn, hfirst⟩
      rw [exec_updateOption_replaces hc hargs hj, replaceOrInsert_of_first hj, prevNumber_eq_lastNumber]
      exact s.commitBody_commitsOrFails _ _ _ 0
    · rw [exec_updateOption_inserts hc hargs (firstWith_eq_none_iff.mpr hnone), exec_insertOption_of_contents hc hargs]

/-- Settles O46: without the entry the body is no longer, so it fits what is allocated. -/
theorem removeOptionDeletesTheFirstMatch : Obligations.RemoveOptionDeletesTheFirstMatch := by
  intro s os p h hc n
  refine ⟨exec_removeOption_badArgument, fun hn hnone => ?_, fun j o hn ho hnum hfirst => ?_⟩
  · rw [exec_removeOption_absent hc (s.numberArgOk_iff.mpr hn.not_gt) (firstWith_eq_none_iff.mpr hnone), State.raise_eq_failed]
  · have hj : firstWith os s.a0 = some j := firstWith_eq_some_iff.mpr ⟨o, ho, hnum, hfirst⟩
    rw [exec_removeOption_deletes hc (s.numberArgOk_iff.mpr hn.not_gt) hj, ← List.eraseIdx_eq_take_drop_succ]
    have hle := h.erased_length_le hc j
    exact ⟨hle, _, rfl, h.commitBody_fits hle _ _ 0⟩
end

section
/-! PROOF. The iterator (41_option_codec R200 to R202): the entry that ITER_NEXT returns, a full pass over the options, the element
rows where the iterator stands (log 9), and the frame of these rows. -/

namespace Sys2Proof.Machine

open Sys2Proof.Spec

/-! ### ITER_NEXT between two parts of the list (R201) -/

theorem exec_iterNext_invalid {s : State} (hv : s.itValid = false) : exec .iterNext s = .next (failed s .iterInvalid) :=
  if_pos (by rw [hv]; rfl)

/-- The store offset after the given entries. -/
def State.offsetAfter (s : State) (pre : List Opt) : Nat := s.maxHdr.toNat + s.tkl.toNat + (encodeOptions pre).length

/-- The iterator is valid, with the entries `pre` before it and the entries `post` from it on (R32, R40). -/
structure State.IteratesAt (s : State) (pre post : List Opt) (p : List Byte) : Prop where
  inv : s.Inv
  contents : s.contents = some (pre ++ post, p)
  valid : s.itValid = true
  pos : s.itPos.toNat = s.offsetAfter pre
  num : s.itNum.toNat = lastFrom 0 pre

/-- What ITER_NEXT makes of a state at the entry (n, v) after the entries `pre` (R201). -/
def State.entryReported (s : State) (pre : List Opt) (n : Nat) (v : List Byte) : State :=
  done { s with itPos := BitVec.ofNat 32 (s.offsetAfter (pre ++ [(n, v)])), itNum := BitVec.ofNat 16 n }
    n (s.offsetAfter (pre ++ [(n, v)]) - v.length) v.length 1

theorem encodeOptions_concat (pre : List Opt) (n : Nat) (v : List Byte) :
    encodeOptions (pre ++ [(n, v)]) = encodeOptions pre ++ encodeEntry (n - lastFrom 0 pre) v := by
  simp [encodeOptions, encodeOptionsFrom_append_lastFrom, encodeOptionsFrom]

namespace State.IteratesAt

section
variable {s : State} {pre post : List Opt} {p : List Byte} (it : s.IteratesAt pre post p)
include it

theorem le_itPos : s.maxHdr.toNat ≤ s.itPos.toNat := by rw [it.pos, State.offsetAfter]; omega

theorem sorted : optsOkFrom s.itNum.toNat post :=
  it.num ▸ optsOkFrom_of_append ((optsOkFrom_zero_iff _).mpr (it.inv.of_contents it.contents).1)

/-- From the iterator on stand the entries left and the payload. -/
theorem ahead_eq : s.ahead = encodeOptionsFrom s.itNum.toNat post ++ payloadPart p := by
  have hoff : s.itPos.toNat - s.maxHdr.toNat = s.tkl.toNat + (encodeOptionsFrom 0 pre).length := by
    rw [it.pos, State.offsetAfter, encodeOptions]; omega
  rw [State.ahead, hoff, ← List.drop_drop]
  change s.rest.drop _ = _
  rw [(it.inv.of_contents it.contents).2, rebuildRest_eq, encodeOptions, encodeOptionsFrom_append_lastFrom, List.append_assoc,
    List.drop_left, it.num]

end

section
variable {s : State} {pre : List Opt} {p : List Byte} (it : s.IteratesAt pre [] p)
include it

/-- R201 at the end of the options. -/
theorem exec_end : exec .iterNext s = .next (done s 0 0 0 0) := execIterNext_end it.le_itPos it.valid it.ahead_eq

/-- At the end ITER_NEXT stays. -/
theorem next_end : (done s 0 0 0 0).IteratesAt pre [] p where
  inv := it.inv.finish 0 0 0 0
  contents := (State.finish_contents ..).trans it.contents
  valid := it.valid
  pos := it.pos
  num := it.num

end

section
variable {s : State} {pre post : List Opt} {p v : List Byte} {n : Nat} (it : s.IteratesAt pre ((n, v) :: post) p)
include it

/-- The next entry is in range, and its bytes stand where the iterator does. -/
theorem ahead_entry : s.itNum.toNat ≤ n ∧ n ≤ 65535 ∧ v.length ≤ 65535 ∧
    ∃ r, s.ahead = encodeEntry (n - s.itNum.toNat) v ++ r := by
  obtain ⟨⟨hn, hmax, hv⟩, -⟩ := (optsOkFrom_cons_iff ..).mp it.sorted
  exact ⟨hn, hmax, hv, _, by rw [it.ahead_eq, encodeOptionsFrom, List.append_assoc]⟩

theorem itPos_add_entry : s.itPos.toNat + (encodeEntry (n - s.itNum.toNat) v).length = s.offsetAfter (pre ++ [(n, v)]) := by
  rw [it.pos, it.num, State.offsetAfter, State.offsetAfter, encodeOptions_concat, List.length_append, Nat.add_assoc]

/-- The entry lies inside the store's addresses (R7). -/
theorem offsetAfter_lt : s.offsetAfter (pre ++ [(n, v)]) < 4294967296 := by
  obtain ⟨-, -, -, r, ha⟩ := it.ahead_entry
  have hend := State.itPos_add_ahead_length it.le_itPos (by simp [ha, encodeEntry_eq])
  have hlt := it.inv.end_lt
  rw [ha, List.length_append] at hend
  rw [← it.itPos_add_entry]
  omega

/-- R201 at an entry. -/
theorem exec_entry : exec .iterNext s = .next (s.entryReported pre n v) := by
  obtain ⟨hn, hmax, hv, r, ha⟩ := it.ahead_entry
  have hnext := execIterNext_entry it.le_itPos it.valid ha (by omega) hv
  rw [it.itPos_add_entry, Nat.add_sub_cancel' hn] at hnext
  exact hnext

theorem entry_keepsMessage : s.KeepsMessage (s.entryReported pre n v) := (execIterNext_keepsMessage it.exec_entry).1

/-- ITER_NEXT moves past the entry. -/
theorem next_entry : (s.entryReported pre n v).IteratesAt (pre ++ [(n, v)]) post p where
  inv := it.inv.execIterNext it.exec_entry
  contents := it.entry_keepsMessage.contents_eq.trans (it.contents.trans (by rw [List.append_cons]))
  valid := it.valid
  pos := by
    change (BitVec.ofNat 32 _).toNat = _
    rw [BitVec.toNat_ofNat, Nat.mod_eq_of_lt it.offsetAfter_lt]
    rfl
  num := by
    obtain ⟨-, hmax, -⟩ := it.ahead_entry
    change (BitVec.ofNat 16 n).toNat = _
    rw [lastFrom_concat, BitVec.toNat_ofNat, Nat.mod_eq_of_lt (by omega)]

/-- The value stands at the end of its entry. -/
theorem memRead_value : s.memRead (s.offsetAfter (pre ++ [(n, v)]) - v.length) v.length = v := by
  obtain ⟨-, -, -, r, ha⟩ := it.ahead_entry
  obtain ⟨front, hfront⟩ : ∃ front, encodeEntry (n - s.itNum.toNat) v = front ++ v := ⟨_, rfl⟩
  have hoff : s.offsetAfter (pre ++ [(n, v)]) - v.length = s.itPos.toNat + front.length := by
    rw [← it.itPos_add_entry, hfront, List.length_append]; omega
  rw [hfront, List.append_assoc] at ha
  rw [hoff, State.memRead_ahead it.le_itPos (by simp [ha]), ha, List.drop_left, List.take_left]

end

end State.IteratesAt

/-! ### A full pass (R202) -/

/-- ITER_INIT stands before the first entry (R200). -/
theorem State.Inv.iteratesAt_start {s t : State} (h : s.Inv) {os : List Opt} {p : List Byte} (hc : s.contents = some (os, p))
    (ht : Machine.exec .iterInit s = .next t) : t.IteratesAt [] os p ∧ s.KeepsMessage t := by
  have hinv : t.Inv := h.execIterInit ht
  have hkeep : s.KeepsMessage t := by cases ht; exact {}
  have hcontents := hkeep.contents_eq.trans hc
  have hlt := h.end_lt
  have hle := h.token_used
  cases ht
  refine ⟨⟨hinv, hcontents, rfl, ?_, rfl⟩, hkeep⟩
  change (BitVec.ofNat 32 _).toNat = _
  rw [BitVec.toNat_ofNat, Nat.mod_eq_of_lt (by omega)]
  rfl

/-- The results at index k of the entries left to a pass: the entry there and its value, or the end. -/
structure State.ReportsIndex (t : State) (post : List Opt) (k : Nat) : Prop where
  status : t.status = .ok
  entry : ∀ o, post[k]? = some o → t.res0.toNat = o.1 ∧ t.res2.toNat = o.2.length ∧ t.res3 = 1 ∧
    t.memRead t.res1.toNat t.res2.toNat = o.2
  ended : post.length ≤ k → t.res0 = 0 ∧ t.res1 = 0 ∧ t.res2 = 0 ∧ t.res3 = 0

theorem State.reportsIndex_end (s : State) (k : Nat) : (done s 0 0 0 0).ReportsIndex [] k where
  status := rfl
  entry _ ho := by simp at ho
  ended _ := ⟨rfl, rfl, rfl, rfl⟩

theorem State.IteratesAt.reportsIndex_entry {s : State} {pre post : List Opt} {p v : List Byte} {n : Nat}
    (it : s.IteratesAt pre ((n, v) :: post) p) : (s.entryReported pre n v).ReportsIndex ((n, v) :: post) 0 where
  status := rfl
  entry o ho := by
    obtain rfl : (n, v) = o := by simpa using ho
    obtain ⟨-, hn, hv, -⟩ := it.ahead_entry
    have hoff := it.offsetAfter_lt
    have h0 : (s.entryReported pre n v).res0.toNat = n := Nat.mod_eq_of_lt (by omega)
    have h1 : (s.entryReported pre n v).res1.toNat = s.offsetAfter (pre ++ [(n, v)]) - v.length := Nat.mod_eq_of_lt (by omega)
    have h2 : (s.entryReported pre n v).res2.toNat = v.length := Nat.mod_eq_of_lt (by omega)
    rw [h0, h1, h2]
    exact ⟨rfl, rfl, rfl, (it.entry_keepsMessage.memRead_eq ..).trans it.memRead_value⟩
  ended hle := absurd hle (by simp)

/-- An index after the first entry is one of the entries after it. -/
theorem State.ReportsIndex.cons {t : State} {post : List Opt} {k : Nat} (h : t.ReportsIndex post k) (o : Opt) :
    t.ReportsIndex (o :: post) (k + 1) where
  status := h.status
  entry o' ho := h.entry o' (by simpa using ho)
  ended hle := h.ended (Nat.le_of_succ_le_succ hle)

/-- One ITER_NEXT of a pass: its report, and the entries left to the next one. -/
theorem State.IteratesAt.exec_next {s : State} {pre post : List Opt} {p : List Byte} (it : s.IteratesAt pre post p) :
    ∃ t pre', exec .iterNext s = .next t ∧ t.IteratesAt pre' post.tail p ∧ t.ReportsIndex post 0 ∧
      ∀ o n, t.memRead o n = s.memRead o n := by
  cases post with
  | nil => exact ⟨_, pre, it.exec_end, it.next_end, s.reportsIndex_end 0, fun _ _ => State.finish_readBytes ..⟩
  | cons o post => exact ⟨_, _, it.exec_entry, it.next_entry, it.reportsIndex_entry, it.entry_keepsMessage.memRead_eq⟩

/-- After k + 1 times ITER_NEXT the entry with index k of those left is reported, or the end. -/
theorem State.IteratesAt.run {s : State} {pre post : List Opt} {p : List Byte} (it : s.IteratesAt pre post p) (k : Nat) :
    ∃ t, runCommands (List.replicate (k + 1) .iterNext) s = some t ∧ t.ReportsIndex post k ∧
      ∀ o n, t.memRead o n = s.memRead o n := by
  induction k generalizing s pre post with
  | zero =>
    obtain ⟨t, -, ht, -, hr, hm⟩ := it.exec_next
    exact ⟨t, by simp [runCommands, ht], hr, hm⟩
  | succ k ih =>
    obtain ⟨u, pre', hu, itu, -, hmu⟩ := it.exec_next
    obtain ⟨t, ht, hr, hm⟩ := ih itu
    refine ⟨t, by rw [List.replicate_succ, runCommands, hu]; exact ht, ?_, fun o n => (hm o n).trans (hmu o n)⟩
    cases post with
    | nil => exact ⟨hr.status, fun o ho => by simp at ho, fun _ => hr.ended (Nat.zero_le k)⟩
    | cons o post => exact hr.cons o

/-! ### The frame of the iterator rows -/

/-- Every outcome of ITER_NEXT and of an option control byte: a failure, the end, or a move of the iterator (R201). -/
def State.IterOutcome (s t : State) : Prop := (∃ c, t = s.raise c) ∨ t = s.finish 0 0 0 0 ∨ ∃ d l, t = s.iterEntry d l

theorem execIterNext_outcome {s t : State} (ht : execIterNext s = .next t) : s.IterOutcome t := by
  unfold execIterNext at ht
  split at ht
  · cases ht; exact .inl ⟨_, rfl⟩
  split at ht
  · cases ht; exact .inr (.inl rfl)
  split at ht <;> cases ht
  · exact .inr (.inr ⟨_, _, rfl⟩)
  · exact .inr (.inl rfl)

theorem execWireOptionControl_outcome {s t : State} {d l : BitVec 4} (ht : execWireOptionControl d l s = .next t) :
    s.IterOutcome t := by
  unfold execWireOptionControl at ht
  split at ht
  · cases ht; exact .inl ⟨_, rfl⟩
  split at ht <;> cases ht
  · exact .inr (.inr ⟨_, _, rfl⟩)
  · exact .inl ⟨_, rfl⟩

theorem State.IterOutcome.frame {s t : State} (h : s.IterOutcome t) :
    t = { onlyReports s t with itValid := t.itValid, itPos := t.itPos, itNum := t.itNum } := by
  obtain ⟨c, rfl⟩ | rfl | ⟨d, l, rfl⟩ := h <;> rfl

end Sys2Proof.Machine

open Sys2Proof Sys2Proof.Machine Sys2Proof.Spec

/-- Settles O7: the byte at IT_POS decodes to the row. -/
theorem iterNextRunsTheElementRows : Obligations.IterNextRunsTheElementRows := by
  intro s i hplace hwf hin hbyte
  have hdecode : decodeWhole .optionPosition [s.storeByte s.itPos.toNat] = some i := by
    have hd := decode_encode i [] hwf
    rw [List.append_nil, hplace] at hd
    rw [← hbyte, decodeWhole, hd]
  change execIterNext s = _
  rw [execIterNext, if_neg hin.not_ge, hdecode]
  cases i with
  | wireOptionControl d l =>
    have hnibbles : (optionNibbleOk d && optionNibbleOk l) = true := hwf
    change _ = execWireOptionControl d l s
    rw [execWireOptionControl, if_pos hnibbles]
  | wirePayloadMarker => rfl
  | _ => cases hplace

/-- Settles O48: R200's writes. -/
theorem iterInitStartsAtTheOptions : Obligations.IterInitStartsAtTheOptions := fun _ => rfl

/-- Settles O49, by the bytes between the iterator and the payload. -/
theorem iterNextReturnsTheNextEntry : Obligations.IterNextReturnsTheNextEntry := by
  intro s os pre post p h hc
  refine ⟨exec_iterNext_invalid, fun hv hos hpos hnum => ?_⟩
  have it : s.IteratesAt pre post p := ⟨h, hos ▸ hc, hv, hpos, hnum.trans (lastFrom_zero_eq_lastNumber pre).symm⟩
  refine ⟨?_, ?_⟩
  · rintro rfl
    exact it.exec_end
  · rintro n v more rfl
    exact ⟨it.memRead_value, it.exec_entry⟩

/-- Settles O50: each ITER_NEXT of the pass stands one entry further. -/
theorem fullPassReturnsEveryOption : Obligations.FullPassReturnsEveryOption := by
  intro s os p h hc k
  obtain ⟨it, hkeep⟩ := h.iteratesAt_start hc rfl
  obtain ⟨t, ht, hr, hm⟩ := it.run k
  refine ⟨t, ht, hr.status, fun o ho => ?_, hr.ended⟩
  obtain ⟨hnumber, hlength, hone, hvalue⟩ := hr.entry o ho
  rw [hm, hkeep.memRead_eq] at hvalue
  exact ⟨hnumber, hlength, hone, hvalue⟩

/-- Settles O55: every outcome of these rows moves the iterator at most. -/
theorem iteratorRowsMoveOnlyTheIterator : Obligations.IteratorRowsMoveOnlyTheIterator := by
  intro i s t hrow ht
  cases i with
  | iterInit => cases ht; rfl
  | iterNext => exact (execIterNext_outcome ht).frame
  | wireOptionControl d l => exact (execWireOptionControl_outcome ht).frame
  | _ => cases hrow
end

section
/-! PROOF. The payload commands (42_payload R220, R221): CommitBody of the body with the marker and the payload, and where a stored
payload lies. -/

namespace Sys2Proof.Machine

open Sys2Proof.Spec

/-! ### Where the payload lies (R43, R44) -/

/-- The payload stands last in its part, with or without a marker before it (R182). -/
theorem suffix_payloadPart (p : List Byte) : p <:+ payloadPart p := by
  by_cases hp : p = []
  · rw [hp]; exact List.nil_suffix
  · rw [payloadPart_of_ne hp]; exact List.suffix_cons ..

section
variable {s : State} {os : List Opt} {p : List Byte} (hc : s.contents = some (os, p))
include hc

/-- A body that decodes ends with its payload (R40). -/
theorem State.payload_suffix_body : p <:+ s.body := by
  obtain ⟨hrest, -⟩ := rebuildRest_of_decodeOptions hc
  rw [← State.token_append_rest, hrest, rebuildRest_eq, ← List.append_assoc]
  exact (suffix_payloadPart p).trans (List.suffix_append ..)

theorem State.payload_length_le : p.length ≤ s.used.toNat :=
  (State.payload_suffix_body hc).length_le.trans_eq s.body_length

/-- The last bytes of the body are the payload (R44). -/
theorem State.memRead_payload : s.memRead (s.maxHdr.toNat + s.used.toNat - p.length) p.length = p := by
  have hle := State.payload_length_le hc
  have hlast : s.body.drop (s.used.toNat - p.length) = p := by
    rw [← State.body_length]; exact (List.suffix_iff_eq_drop.mp (State.payload_suffix_body hc)).symm
  rw [State.memRead, Nat.add_sub_assoc hle, ← Nat.add_assoc, State.readBytes_slice (n := s.used.toNat) _ _ (by omega)]
  change (s.body.drop _).take p.length = p
  rw [hlast, List.take_length]

/-! ### The answers of the commands over a body that decodes -/

theorem exec_getData_of_contents : exec .getData s = .next (if dataPresent p then
    s.finish (s.dataOff p) (s.maxHdr.toNat + s.used.toNat - s.dataOff p) 0 1 else s.finish 0 0 0 0) :=
  State.withContents_some hc _

theorem exec_addData_of_contents (hcount : s.arg0.toNat ≤ s.cfg.inbufBytes.toNat) :
    exec .addData s = .next (if dataPresent p then s.raise .invalidOrder
      else if s.a0 = 0 then s.finish 0 0 0 0
      else s.commitBody (s.body ++ 0xFF :: s.bytes0) s.tkl.toNat (s.maxHdr.toNat + s.used.toNat + 1) s.a0) := by
  change execAddData s = _
  rw [execAddData, if_neg (s.not_countOk_iff.not.mpr hcount.not_gt), State.withContents_some hc]

end

/-- A count above INBUF fails ADD_DATA (R220, D38). -/
theorem exec_addData_badArgument {s : State} (hcount : s.cfg.inbufBytes.toNat < s.arg0.toNat) :
    exec .addData s = .next (failed s .badArgument) := if_pos (s.not_countOk_iff.mpr hcount)

end Sys2Proof.Machine

open Sys2Proof Sys2Proof.Machine Sys2Proof.Spec

/-- Settles O52: the checks in R220's order, and then CommitBody of the body with the marker and INBUF's bytes. -/
theorem addDataAppendsThePayload : Obligations.AddDataAppendsThePayload := by
  intro s os p hc n nb
  split
  next hbad => exact exec_addData_badArgument hbad
  next hcount =>
    rw [exec_addData_of_contents hc (Nat.not_lt.mp hcount)]
    refine ⟨fun hp => ?_, fun hp hzero => ?_, fun hp hsome => ?_⟩
    · rw [if_pos ((dataPresent_iff p).mpr hp), State.raise_eq_failed]
    · rw [if_neg (by simp [hp]), if_pos (show s.a0 = 0 from hzero), State.finish_eq_done]
    · have hnb : nb = s.body ++ 0xFF :: s.bytes0 := List.append_assoc ..
      rw [if_neg (by simp [hp]), if_neg (show s.a0 ≠ 0 from hsome), hnb]
      exact s.commitBody_commitsOrFails _ _ _ _

/-- Settles O53: the payload is the end of the body. -/
theorem getDataLocatesThePayload : Obligations.GetDataLocatesThePayload := by
  intro s os p hc
  rw [exec_getData_of_contents hc]
  refine ⟨fun hp => ?_, fun hp => ⟨State.memRead_payload hc, ?_⟩⟩
  · rw [if_neg (by simp [hp]), State.finish_eq_done]
  · have hle := State.payload_length_le hc
    rw [if_pos ((dataPresent_iff p).mpr hp), State.dataOff_eq, if_neg hp, State.finish_eq_done, Nat.sub_sub_self (by omega)]
end

section
/-! PROOF. The message manager's register commands (43_message_manager R240 to R247): each command's answer as one equation, and
the registers that it and the reporting rows write. -/

namespace Sys2Proof.Machine

open Sys2Proof.Spec

/-! ### The answers (R240, R242 to R245) -/

/-- Every answer of MSG_INIT, in the order of R240. -/
theorem exec_msgInit (p : Transport) (s : State) : exec (.msgInit p) s = .next (
    if s.initialCapacity = 0 then (s.constructed p 0).finish 0 0 0 0
    else if s.cfg.storeBytes.toNat < s.initialCapacity then s.raise .allocFailure
    else if Config.allocOk s.draws then
      ((s.drawn (s.draws + 1)).constructed p s.initialCapacity).finish s.initialCapacity 0 0 0
    else (s.drawn (s.draws + 1)).raise .allocFailure) := by
  change execMsgInit p s = _
  unfold execMsgInit State.growExact
  split_ifs <;> rfl

/-- Every answer of RESIZE, in the order of R242. -/
theorem exec_resize (s : State) : exec .resize s = .next (
    if s.arg0.toNat ≤ s.alloc.toNat then done s s.alloc.toNat 0 0 0
    else if ceiling s < s.arg0.toNat then failed s .sizeExceeded
    else if s.cfg.storeBytes.toNat < s.arg0.toNat then failed s .allocFailure
    else if Config.allocOk s.draws then
      done { s with alloc := BitVec.ofNat 32 s.arg0.toNat, draws := s.draws + 1 } s.arg0.toNat 0 0 0
    else failed { s with draws := s.draws + 1 } .allocFailure) := by
  change execResize s = _
  unfold execResize State.growExact
  rw [s.ceiling_eq_limit, ← State.a0]
  split_ifs <;> rfl

/-- A write of TYPE or MID, by R31. -/
theorem onDgram_eq_ite (p : Transport) {w : Nat} (v : BitVec w) : onDgram p v = if p = .stream then 0 else v := by
  cases p <;> rfl

theorem hdrReserve_eq_ofNat (p : Transport) : hdrReserve p = BitVec.ofNat 3 (reserve p) := by cases p <;> rfl

/-! ### The rows that only report (R150, R151, R221; the wire rows by log 9) -/

/-- A report of a header writes STATUS and RES alone (R151, R273). -/
theorem State.reportHeader_onlyReports (s : State) (p : Transport) (b : List Byte) :
    s.reportHeader p b = onlyReports s (s.reportHeader p b) := by
  unfold State.reportHeader
  split <;> rfl

section
variable {s t : State}

theorem execFrameSize_onlyReports {p : Transport} (ht : execFrameSize p s = .next t) : t = onlyReports s t := by
  unfold execFrameSize at ht
  split at ht <;> cases ht
  · rfl
  · exact s.reportHeader_onlyReports p _

theorem execGetData_onlyReports (ht : execGetData s = .next t) : t = onlyReports s t := by
  obtain ⟨os, p, -, rfl⟩ := State.withContents_next ht
  split <;> rfl

theorem execWirePayloadMarker_onlyReports (ht : execWirePayloadMarker s = .next t) : t = onlyReports s t := by
  unfold execWirePayloadMarker at ht
  split at ht <;> cases ht <;> rfl

end

end Sys2Proof.Machine

open Sys2Proof Sys2Proof.Machine Sys2Proof.Spec

/-- Settles O30: NOP is `finish` with zeros over the state. -/
theorem nopReportsOk : Obligations.NopReportsOk := fun _ => rfl

/-- Settles O31, by the answers of MSG_INIT in R240's order. -/
theorem msgInitConstructsAnEmptyMessage : Obligations.MsgInitConstructsAnEmptyMessage := by
  intro p s hint max a0 made
  have hcap : s.initialCapacity = a0 := (ite_not ..).symm
  have hmade (d : Nat) : made d = ((s.drawn d).constructed p a0).finish a0 0 0 0 := by
    simp only [made, ← hdrReserve_eq_ofNat]; rfl
  rw [exec_msgInit, hcap]
  refine ⟨fun hzero => ?_, fun hbig => ?_, fun hpos hle => ?_⟩
  · rw [if_pos hzero, hmade, hzero]; rfl
  · rw [if_neg (by omega), if_pos hbig, State.raise_eq_failed]
  · rw [if_neg hpos.ne', if_neg hle.not_gt, hmade]; rfl

/-- Settles O32: CLEAR is `finish` with zeros over the emptied message with ARG0 as MAX. -/
theorem clearEmptiesTheMessage : Obligations.ClearEmptiesTheMessage := fun _ => rfl

/-- Settles O33, by the answers of RESIZE in R242's order. -/
theorem resizeGrowsTheCapacity : Obligations.ResizeGrowsTheCapacity := by
  intro s ns
  rw [exec_resize]
  refine ⟨fun hkept => ?_, fun hmore hbig => ?_, fun hmore hle hstore => ?_, fun hmore hle hfits => ?_⟩
  · rw [if_pos hkept]
  · rw [if_neg hmore.not_ge, if_pos hbig]
  · rw [if_neg hmore.not_ge, if_neg hle.not_gt, if_pos hstore]
  · rw [if_neg hmore.not_ge, if_neg hle.not_gt, if_neg hfits.not_gt, BitVec.ofNat_toNat, BitVec.setWidth_eq]

/-- Settles O34, with R31 for TYPE and MID. -/
theorem setCommandsWriteTheHeaderFields : Obligations.SetCommandsWriteTheHeaderFields := by
  intro s
  rw [← onDgram_eq_ite, ← onDgram_eq_ite]
  exact ⟨(apply_ite _ _ _ _).symm, (apply_ite _ _ _ _).symm, (apply_ite _ _ _ _).symm⟩

/-- Settles O54: each row ends in one report, or in `finish` or `raise` over the state before. -/
theorem reportingRowsChangeOnlyResults : Obligations.ReportingRowsChangeOnlyResults := by
  intro i s t hrow ht
  cases i with
  | nop | hdrSize => cases ht; rfl
  | frameSize p => exact execFrameSize_onlyReports ht
  | getData => exact execGetData_onlyReports ht
  | wireDgramHeader | wireStreamHeaderS0to12 | wireStreamHeaderS13 | wireStreamHeaderS14 | wireStreamHeaderS15 =>
    cases ht; exact s.reportHeader_onlyReports _ _
  | wirePayloadMarker => exact execWirePayloadMarker_onlyReports ht
  | _ => cases hrow

/-- Settles O56: each answer of these commands, by its own equation, writes registers alone. -/
theorem registerCommandsStoreNothing : Obligations.RegisterCommandsStoreNothing := by
  intro s t
  obtain ⟨htype, hcode, hmid⟩ := setCommandsWriteTheHeaderFields s
  refine ⟨fun p ht => ?_, fun ht => ?_, fun ht => ?_, fun ht => ?_, fun ht => ?_, fun ht => ?_⟩
  · rw [exec_msgInit] at ht; cases ht; split_ifs <;> rfl
  · cases ht; rfl
  · rw [exec_resize] at ht; cases ht; split_ifs <;> rfl
  · rw [htype] at ht; cases ht; split <;> rfl
  · rw [hcode] at ht; cases ht; split <;> rfl
  · rw [hmid] at ht; cases ht; split <;> rfl
end

section
/-! PROOF. The commands that commit a body: ADD_TOKEN and UPDATE_TOKEN (43_message_manager R250, R251) by CommitBody, and what any
command that ends in CommitBody (R230) leaves unchanged. -/

namespace Sys2Proof.Machine

open Sys2Proof.Spec

/-! ### The token commands (R250, R251) -/

/-- The operand check of the token commands, as R250 has it. -/
theorem State.tokenArgOk_iff (s : State) : s.tokenArgOk = true ↔
    ¬(8 < s.arg0.toNat ∨ s.cfg.inbufBytes.toNat < s.arg0.toNat) := by
  simp only [State.tokenArgOk, State.countOk, Bool.and_eq_true, decide_eq_true_eq, not_or, Nat.not_lt]
  rfl

section
variable {s : State}

/-- A token length out of range fails both commands (R250, R251). -/
theorem exec_tokenArg_bad (hbad : 8 < s.arg0.toNat ∨ s.cfg.inbufBytes.toNat < s.arg0.toNat) :
    exec .addToken s = .next (failed s .badArgument) ∧ exec .updateToken s = .next (failed s .badArgument) := by
  have hargs : (!s.tokenArgOk) = true := by
    rw [Bool.not_eq_true', ← Bool.not_eq_true, s.tokenArgOk_iff, not_not]; exact hbad
  exact ⟨if_pos hargs, if_pos hargs⟩

variable (hargs : s.tokenArgOk = true)
include hargs

theorem exec_addToken_of_arg : exec .addToken s =
    .next (if s.used ≠ 0 then s.raise .invalidOrder else s.commitBody s.bytes0 s.a0 s.a0 0) := by
  change execAddToken s = _
  rw [execAddToken, if_neg (by simp [hargs]), apply_ite Host.Outcome.next]

theorem exec_updateToken_of_arg : exec .updateToken s = .next (s.commitBody (s.bytes0 ++ s.rest) s.a0 s.a0 0) := by
  change execUpdateToken s = _
  rw [execUpdateToken, if_neg (by simp [hargs])]

end

/-! ### Every outcome of a body command (R230) -/

/-- What a command that ends in CommitBody leaves: a failure, the message as it was, or a body within Limit (R230). -/
inductive State.BodyOutcome (s : State) : State → Prop
  | failed (c : Completion) (d : Nat) : s.BodyOutcome ((s.drawn d).raise c)
  | kept : s.BodyOutcome (s.finish 0 0 0 0)
  | stored {nb : List Byte} (hl : nb.length ≤ s.limit) (d ntkl a r0 r1 : Nat) :
    s.BodyOutcome (((s.drawn d).putBody nb ntkl a).finish r0 r1 0 0)

theorem State.bodyOutcome_raise (s : State) (c : Completion) : s.BodyOutcome (s.raise c) := .failed c s.draws

theorem State.bodyOutcome_commitBody (s : State) (nb : List Byte) (ntkl r0 r1 : Nat) :
    s.BodyOutcome (s.commitBody nb ntkl r0 r1) := by
  rcases s.commitBody_cases nb ntkl r0 r1 with ⟨-, he⟩ | ⟨-, d, -, he⟩ | ⟨hl, a, d, -, he⟩ <;> rw [he]
  · exact s.bodyOutcome_raise _
  · exact .failed _ d
  · exact .stored hl d ntkl a r0 r1

/-- A check before the rest of a body command. -/
theorem State.bodyOutcome_of_check {s t : State} {b : Prop} [Decidable b] {c : Completion} {r : Result}
    (ht : (if b then .next (s.raise c) else r) = .next t) (hr : r = .next t → s.BodyOutcome t) : s.BodyOutcome t := by
  split at ht
  · cases ht; exact s.bodyOutcome_raise c
  · exact hr ht

/-- A body command over the logical views (R40). -/
theorem State.bodyOutcome_of_contents {s t : State} {f : List Opt → List Byte → State} (ht : s.withContents f = .next t)
    (hf : ∀ os p, s.BodyOutcome (f os p)) : s.BodyOutcome t := by
  obtain ⟨os, p, -, rfl⟩ := State.withContents_next ht
  exact hf os p

/-- Every body command ends in CommitBody or leaves the message as it was. -/
theorem exec_bodyOutcome {i : Instr} {s t : State} (hi : BodyCommand i) (ht : exec i s = .next t) : s.BodyOutcome t := by
  cases i with
  | addToken =>
    refine State.bodyOutcome_of_check ht fun ht => State.bodyOutcome_of_check ht fun ht => ?_
    cases ht; exact s.bodyOutcome_commitBody ..
  | updateToken =>
    refine State.bodyOutcome_of_check ht fun ht => ?_
    cases ht; exact s.bodyOutcome_commitBody ..
  | addOption =>
    refine State.bodyOutcome_of_check ht fun ht => State.bodyOutcome_of_contents ht fun os p => ?_
    split
    · exact s.bodyOutcome_raise _
    · exact s.bodyOutcome_commitBody ..
  | insertOption =>
    exact State.bodyOutcome_of_check ht fun ht => State.bodyOutcome_of_contents ht fun _ _ => s.bodyOutcome_commitBody ..
  | updateOption =>
    refine State.bodyOutcome_of_check ht fun ht => State.bodyOutcome_of_contents ht fun os p => ?_
    split <;> exact s.bodyOutcome_commitBody ..
  | removeOption =>
    refine State.bodyOutcome_of_check ht fun ht => State.bodyOutcome_of_contents ht fun os p => ?_
    split
    · exact s.bodyOutcome_raise _
    · exact s.bodyOutcome_commitBody ..
  | addData =>
    refine State.bodyOutcome_of_check ht fun ht => State.bodyOutcome_of_contents ht fun os p => ?_
    split
    · exact s.bodyOutcome_raise _
    split
    · exact .kept
    · exact s.bodyOutcome_commitBody ..
  | _ => simp [BodyCommand] at hi

/-- Nothing is held after a committed body (R230). -/
theorem State.putBody_read_after (s : State) (nb : List Byte) (ntkl a : Nat) {x : Nat}
    (hx : storeBase + s.maxHdr.toNat + nb.length ≤ x) : (s.putBody nb ntkl a).mem.read x = none := by
  rw [State.putBody_mem, Memory.storeForget]
  exact Memory.read_dropFrom_from _ (by omega)

end Sys2Proof.Machine

open Sys2Proof Sys2Proof.Machine Sys2Proof.Spec

/-- Settles O35: the checks in the rules' order, and then CommitBody of INBUF's bytes. -/
theorem tokenCommandsCommitTheToken : Obligations.TokenCommandsCommitTheToken := by
  intro s
  split
  next hbad => exact exec_tokenArg_bad hbad
  next hgood =>
    have hargs := s.tokenArgOk_iff.mpr hgood
    rw [exec_addToken_of_arg hargs, exec_updateToken_of_arg hargs]
    refine ⟨fun hused => ?_, fun hempty => ?_, s.commitBody_commitsOrFails _ _ _ _⟩
    · rw [if_pos hused, State.raise_eq_failed]
    · have hcommit := s.commitBody_commitsOrFails s.bytes0 s.a0 s.a0 0
      rw [State.bytes0_length] at hcommit
      rw [if_neg (not_not.mpr hempty)]
      exact hcommit

/-- Settles O57, by the outcomes of a body command: memory changes only by a committed body. -/
theorem bodyCommandsChangeOnlyTheBody : Obligations.BodyCommandsChangeOnlyTheBody := by
  intro i s t hi ht
  cases exec_bodyOutcome hi ht with
  | failed | kept => exact ⟨rfl, fun _ _ => rfl, .inl rfl⟩
  | stored hl d ntkl a =>
    refine ⟨rfl, fun _ => State.putBody_read_below (s := s.drawn d) _ ntkl a, .inr fun x hx => ?_⟩
    rw [State.finish_used, State.putBody_used, State.toNat_size (.inl hl)] at hx
    exact (s.drawn d).putBody_read_after _ ntkl a hx
end

section
/-! PROOF. What any command ends in (60_exceptions R270 to R273, R276): success, one of its completion codes with nothing else
changed, or a fault that the invariant rules out; and operands outside their ranges (92_eei_decisions D38). -/

namespace Sys2Proof.Machine

open Sys2Proof.Spec

/-! ### The ends of a command -/

/-- What a command ends in, given its completion codes: OK, a failure (R273) under one of the codes, or a fault (log 14). The
invariant, which not every state meets, rules the faults out (R41) and vouches for the codes (R270). -/
inductive State.Ends (s : State) (cs : List Completion) : Result → Prop
  | ok {t : State} : t.status = .ok → s.Ends cs (.next t)
  | failed {c : Completion} (d : Nat) : (s.Inv → c ∈ cs) → s.Ends cs (.next ((s.drawn d).raise c))
  | fault (f : Fault) : ¬s.Inv → s.Ends cs (.fault f)

section
variable {s : State} {cs : List Completion}

theorem State.ends_raise {c : Completion} (hc : c ∈ cs := by simp [codesOf]) : s.Ends cs (.next (s.raise c)) :=
  .failed s.draws fun _ => hc

/-- A check that stands before the rest of a command. -/
theorem State.ends_check {b : Prop} [Decidable b] {c : Completion} {r : Result} (hr : s.Ends cs r)
    (hc : c ∈ cs := by simp [codesOf]) : s.Ends cs (if b then .next (s.raise c) else r) := by
  split
  · exact State.ends_raise hc
  · exact hr

/-- A command over the logical views faults only where the stored body does not decode (R40, R41). -/
theorem State.ends_withContents {f : List Opt → List Byte → State}
    (hf : ∀ os p, s.contents = some (os, p) → s.Ends cs (.next (f os p))) : s.Ends cs (s.withContents f) := by
  cases hc : s.contents with
  | none =>
    rw [State.withContents, hc]
    refine .fault _ fun h => ?_
    obtain ⟨os, p, hsome, -⟩ := h.body_ok
    simp [hc] at hsome
  | some c => rw [State.withContents_some hc]; exact hf _ _ hc

/-- CommitBody (R230). -/
theorem State.ends_commitBody (nb : List Byte) (ntkl r0 r1 : Nat) (hbig : s.Inv → .sizeExceeded ∈ cs := by simp [codesOf])
    (hfull : s.Inv → .allocFailure ∈ cs := by simp [codesOf]) : s.Ends cs (.next (s.commitBody nb ntkl r0 r1)) := by
  rcases s.commitBody_cases nb ntkl r0 r1 with ⟨-, he⟩ | ⟨-, d, -, he⟩ | ⟨-, a, d, -, he⟩ <;> rw [he]
  · exact .failed s.draws hbig
  · exact .failed d hfull
  · exact .ok rfl

/-- CommitBody of a body no longer than the stored one (R231). -/
theorem State.ends_commitBody_fits (nb : List Byte) (ntkl r0 r1 : Nat) (hle : s.Inv → nb.length ≤ s.used.toNat) :
    s.Ends cs (.next (s.commitBody nb ntkl r0 r1)) := by
  by_cases h : s.Inv
  · obtain ⟨-, -, hcommitted, -⟩ := h.commitBody_fits (hle h) ntkl r0 r1
    exact .ok (congrArg State.status hcommitted)
  · exact State.ends_commitBody nb ntkl r0 r1 (absurd · h) (absurd · h)

/-! ### Headers (R140, R151) -/

/-- The failures of HdrDecode (R140). -/
theorem hdrDecode_error {m : Nat} {chk : Bool} {p : Transport} {b : List Byte} {c : Completion}
    (hd : hdrDecode m chk p b = .error c) : c = .malformedHeader ∨ c = .sizeExceeded := by
  cases p with
  | dgram | stream =>
    simp only [hdrDecode] at hd
    repeat' split at hd
    all_goals cases hd <;> simp

/-- A report of a header (R151). -/
theorem State.ends_reportHeader (p : Transport) (b : List Byte) (hbad : .malformedHeader ∈ cs := by simp [codesOf])
    (hbig : .sizeExceeded ∈ cs := by simp [codesOf]) : s.Ends cs (.next (s.reportHeader p b)) := by
  unfold State.reportHeader
  split
  · next c hd =>
    rcases hdrDecode_error hd with rfl | rfl
    · exact State.ends_raise hbad
    · exact State.ends_raise hbig
  · exact .ok rfl

end

/-! ### The commands with ends of their own -/

/-- PARSE (R152). -/
theorem ends_parse (p : Transport) (s : State) : s.Ends (codesOf (.parse p)) (exec (.parse p) s) := by
  refine State.ends_check ?_
  split
  · next c hd => rcases hdrDecode_error hd with rfl | rfl <;> exact State.ends_raise
  next h _ =>
  unfold State.parseBody
  split
  · exact State.ends_raise
  dsimp only
  split
  · exact State.ends_raise
  split
  · exact State.ends_raise
  split
  · exact .failed _ fun _ => by simp [codesOf]
  · exact .ok rfl

/-- ITER_NEXT under the invariant, where the iterator is valid: an entry or the end (R201). -/
theorem State.Inv.exec_iterNext_ok {s : State} (h : s.Inv) (hv : s.itValid = true) :
    ∃ t, Machine.exec .iterNext s = .next t ∧ t.status = .ok := by
  obtain ⟨pre, post, p, -, hpost, hpos, -, hahead⟩ := h.iter_stop hv
  have hle : s.maxHdr.toNat ≤ s.itPos.toNat := by omega
  cases post with
  | nil => exact ⟨_, execIterNext_end hle hv hahead, rfl⟩
  | cons o post =>
    obtain ⟨n, v⟩ := o
    obtain ⟨⟨-, hn, hv'⟩, -⟩ := (optsOkFrom_cons_iff ..).mp hpost
    rw [encodeOptionsFrom, List.append_assoc] at hahead
    exact ⟨_, execIterNext_entry hle hv hahead (by omega) hv', rfl⟩

/-- ITER_NEXT (R201): ITER_INVALID, or, under the invariant, OK. -/
theorem ends_iterNext (s : State) : s.Ends (codesOf .iterNext) (exec .iterNext s) := by
  by_cases hv : s.itValid = true
  case neg =>
    rw [exec_iterNext_invalid (by simpa using hv)]
    exact State.ends_raise (c := .iterInvalid)
  by_cases h : s.Inv
  · obtain ⟨t, ht, hok⟩ := h.exec_iterNext_ok hv
    rw [ht]
    exact .ok hok
  · cases hx : exec .iterNext s with
    | next t =>
      obtain ⟨c, rfl⟩ | rfl | ⟨d, l, rfl⟩ := execIterNext_outcome hx
      · exact .failed s.draws (absurd · h)
      · exact .ok rfl
      · exact .ok rfl
    | fault f => exact .fault f h
    | refused r => exact absurd hx (exec_unrefused .iterNext s r)

/-! ### Every command -/

/-- Every instruction ends in OK or one of R270's codes for it, and faults only where the invariant does not hold. -/
theorem exec_ends (i : Instr) (s : State) : s.Ends (codesOf i) (exec i s) := by
  cases i with
  | nop | clear | hdrSize | iterInit => exact .ok rfl
  | msgInit p =>
    rw [exec_msgInit]
    split_ifs
    · exact .ok rfl
    · exact State.ends_raise
    · exact .ok rfl
    · exact .failed _ fun _ => by simp [codesOf]
  | resize =>
    rw [exec_resize]
    split_ifs
    · exact .ok rfl
    · exact State.ends_raise (c := .sizeExceeded)
    · exact State.ends_raise (c := .allocFailure)
    · exact .ok rfl
    · exact State.Ends.failed (c := .allocFailure) (s.draws + 1) fun _ => by simp [codesOf]
  | setType | setCode | setMid => exact State.ends_check (.ok rfl)
  | frameSize p => exact State.ends_check (State.ends_reportHeader p _)
  | parse p => exact ends_parse p s
  | encodeHdr =>
    rcases Nat.lt_or_ge s.maxHdr.toNat (headerBytes s).length with hbig | hfit
    · rw [exec_encodeHdr_noSpace hbig]; exact State.ends_raise
    · rw [exec_encodeHdr_fits hfit]; exact .ok rfl
  | addToken => exact State.ends_check (State.ends_check (State.ends_commitBody ..))
  | updateToken => exact State.ends_check (State.ends_commitBody ..)
  | addOption =>
    refine State.ends_check (State.ends_withContents fun os p _ => ?_)
    split
    · exact State.ends_raise
    · exact State.ends_commitBody ..
  | insertOption => exact State.ends_check (State.ends_withContents fun _ _ _ => State.ends_commitBody ..)
  | updateOption =>
    refine State.ends_check (State.ends_withContents fun os p _ => ?_)
    split <;> exact State.ends_commitBody ..
  | removeOption =>
    refine State.ends_check (State.ends_withContents fun os p hc => ?_)
    split
    · exact State.ends_raise
    · exact State.ends_commitBody_fits _ _ _ _ fun h => h.erased_length_le hc _
  | iterNext => exact ends_iterNext s
  | addData =>
    refine State.ends_check (State.ends_withContents fun os p _ => ?_)
    split
    · exact State.ends_raise
    split
    · exact .ok rfl
    · exact State.ends_commitBody ..
  | getData => exact State.ends_withContents fun os p _ => by split <;> exact .ok rfl
  | wireDgramHeader | wireStreamHeaderS0to12 | wireStreamHeaderS13 | wireStreamHeaderS14 | wireStreamHeaderS15 =>
    exact State.ends_reportHeader ..
  | wireOptionControl d l =>
    refine State.ends_check ?_
    split
    · exact .ok rfl
    · exact State.ends_raise
  | wirePayloadMarker => exact State.ends_check (.ok rfl)

/-- OK is a code of every command (R270). -/
theorem ok_mem_codesOf (i : Instr) : .ok ∈ codesOf i := by cases i <;> simp [codesOf]

/-! ### Steps under the invariant (R276) -/

section
variable {s : State} (h : s.Inv)
include h

/-- Every register reads, for the stored body decodes (R41). -/
theorem State.Inv.exists_readReg (off : Nat) : ∃ v, s.readReg off = some v := by
  obtain ⟨os, p, hc, -⟩ := h.body_ok
  unfold State.readReg
  split <;> simp [hc]

theorem State.Inv.exists_exec (i : Instr) : ∃ t, Machine.exec i s = .next t := by
  have hends := exec_ends i s
  generalize Machine.exec i s = r at hends ⊢
  cases hends with
  | ok | failed => exact ⟨_, rfl⟩
  | fault _ hn => exact absurd h hn

theorem State.Inv.exists_writeReg (off : Nat) (w : Word) : ∃ t, s.writeReg off w = .next t := by
  unfold State.writeReg
  split
  · unfold State.runCommand
    split
    · exact State.Inv.exists_exec (h.withUnread { s with cmd := w }) _
    · exact ⟨_, rfl⟩
  all_goals exact ⟨_, rfl⟩

variable {size : AccessSize} {a : Nat} (hok : accessOk size a = true)
include hok

theorem State.Inv.exists_hostRead : ∃ t, s.hostRead size a = .next t := by
  rcases windowOf_cases a with ⟨-, hw⟩ | ⟨-, -, hw⟩ | ⟨-, -, hw⟩ | ⟨-, hw⟩
  · obtain ⟨v, hv⟩ := h.exists_readReg a
    rw [s.hostRead_registers hok hw, hv]
    exact ⟨_, rfl⟩
  · exact ⟨_, s.hostRead_outside hok hw⟩
  · exact ⟨_, s.hostRead_inbuf hok hw⟩
  · obtain ⟨v, d, hread⟩ := s.readStore_changes (a - storeBase)
    exact ⟨_, (s.hostRead_store hok hw).trans hread⟩

theorem State.Inv.exists_hostWrite (w : Word) : ∃ t, s.hostWrite size a w = .next t := by
  rcases windowOf_cases a with ⟨-, hw⟩ | ⟨-, -, hw⟩ | ⟨-, -, hw⟩ | ⟨-, hw⟩
  · rw [s.hostWrite_registers w hok hw]
    exact h.exists_writeReg a w
  · exact ⟨_, s.hostWrite_outside w hok hw⟩
  · exact ⟨_, s.hostWrite_inbuf w hok hw⟩
  · exact ⟨_, s.hostWrite_store w hok hw⟩

end

end Sys2Proof.Machine

open Sys2Proof Sys2Proof.Machine Sys2Proof.Spec

/-- Settles O16: an access that R77 allows answers a next state, since every register reads and no command faults. -/
theorem noStepFaults : Obligations.NoStepFaults := by
  intro s h
  match hs : s.host with
  | [] => exact .inl ⟨s, by rw [step, hs]⟩
  | .reset :: rest => exact .inl ⟨_, by rw [step, hs]; rfl⟩
  | .read size a :: rest =>
    rw [step_read hs]
    by_cases hok : accessOk size a.toNat = true
    · exact .inl (State.Inv.exists_hostRead (h.withUnread { s with host := rest }) hok)
    · exact .inr (State.hostRead_refused _ hok)
  | .write size a w :: rest =>
    rw [step_write hs]
    by_cases hok : accessOk size a.toNat = true
    · exact .inl (State.Inv.exists_hostWrite (h.withUnread { s with host := rest }) hok w)
    · exact .inr (State.hostWrite_refused _ w hok)

/-- Settles O19: a command that ends with a failure ends in `raise` over the state with its draws. -/
theorem failureChangesNothing : Obligations.FailureChangesNothing := by
  intro i s t ht hne
  have hends := exec_ends i s
  rw [ht] at hends
  cases hends with
  | ok hok => exact absurd hok hne
  | failed => rfl

/-- Settles O20, by the codes among which every command ends. -/
theorem statusCodesOfEachCommand : Obligations.StatusCodesOfEachCommand := by
  intro i s t h ht
  have hends := exec_ends i s
  rw [ht] at hends
  cases hends with
  | ok hok => exact hok ▸ ok_mem_codesOf i
  | failed d hc => exact hc h

/-- Settles O21, by each command's first check. -/
theorem operandsOutOfRange : Obligations.OperandsOutOfRange := by
  intro s
  refine ⟨fun hbad => if_pos hbad, fun hbad => if_pos hbad, fun hbad => if_pos hbad, fun i hi hbad => ?_, fun i hi hbad => ?_,
    exec_removeOption_badArgument, fun hcount => ⟨exec_addData_badArgument hcount, fun p => ⟨?_, ?_⟩⟩⟩
  · obtain ⟨hadd, hupdate⟩ := exec_tokenArg_bad hbad
    simp only [List.mem_cons, List.not_mem_nil, or_false] at hi
    rcases hi with rfl | rfl
    · exact hadd
    · exact hupdate
  · exact exec_optionArgs_bad hbad (by simpa using hi)
  · exact if_pos (s.not_countOk_iff.mpr hcount)
  · exact exec_parse_badArgument hcount
end

section
/-! PROOF. Reset (70_reset_and_hazards R300 to R302): what the reset state holds, its invariant, and the reset event; and the
host's side of the block, which no command writes (R305). -/

namespace Sys2Proof.Machine

open Sys2Proof.Spec

/-! ### The host's side of the block (R305) -/

/-- What no command writes beside INBUF: CMD (R22), ARG0 and ARG1 (R23), the CFG registers (R33) and the host's accesses. -/
def State.hostSide (s : State) : Word × Word × Word × Params × List HostAccess := (s.cmd, s.arg0, s.arg1, s.cfg, s.host)

/-- The host's registers and accesses and every byte of INBUF are those of s. -/
def State.KeepsHostSide (s t : State) : Prop := t.hostSide = s.hostSide ∧ ∀ x < storeBase, t.mem.read x = s.mem.read x

/-- A command keeps the host's side if its frame leaves it out and keeps the bytes below the store. -/
theorem State.keepsHostSide_of_frame {s t u : State} (hframe : t = u)
    (hinbuf : ∀ x < storeBase, u.mem.read x = s.mem.read x := by exact fun _ _ => rfl)
    (hside : u.hostSide = s.hostSide := by rfl) : s.KeepsHostSide t :=
  hframe ▸ ⟨hside, hinbuf⟩

/-- Every command keeps the host's side, by the frame of its kind. -/
theorem exec_keepsHostSide {i : Instr} {s t : State} (ht : exec i s = .next t) : s.KeepsHostSide t := by
  have hreports (hi : ReportingRow i) : s.KeepsHostSide t :=
    State.keepsHostSide_of_frame (reportingRowsChangeOnlyResults i s t hi ht)
  have hiterates (hi : IteratorRow i) : s.KeepsHostSide t :=
    State.keepsHostSide_of_frame (iteratorRowsMoveOnlyTheIterator i s t hi ht)
  have hstores (hi : BodyCommand i) : s.KeepsHostSide t := by
    obtain ⟨hframe, hbelow, -⟩ := bodyCommandsChangeOnlyTheBody i s t hi ht
    exact State.keepsHostSide_of_frame hframe fun x hx => hbelow x (Nat.lt_add_right _ hx)
  obtain ⟨hinit, hclear, hresize, htype, hcode, hmid⟩ := registerCommandsStoreNothing s t
  obtain ⟨hencode, hparse⟩ := framingCommandsStoreOnlyTheFrame s t
  cases i with
  | nop | hdrSize | frameSize | getData | wireDgramHeader | wireStreamHeaderS0to12 | wireStreamHeaderS13 | wireStreamHeaderS14
  | wireStreamHeaderS15 | wirePayloadMarker => exact hreports trivial
  | iterInit | iterNext | wireOptionControl => exact hiterates trivial
  | addToken | updateToken | addOption | insertOption | updateOption | removeOption | addData =>
    exact hstores (by simp [BodyCommand])
  | msgInit p => exact State.keepsHostSide_of_frame (hinit p ht)
  | clear => exact State.keepsHostSide_of_frame (hclear ht)
  | resize => exact State.keepsHostSide_of_frame (hresize ht)
  | setType => exact State.keepsHostSide_of_frame (htype ht)
  | setCode => exact State.keepsHostSide_of_frame (hcode ht)
  | setMid => exact State.keepsHostSide_of_frame (hmid ht)
  | encodeHdr =>
    obtain ⟨hframe, hbelow⟩ := hencode ht
    exact State.keepsHostSide_of_frame hframe fun x hx => hbelow x (.inl (Nat.lt_add_right _ hx))
  | parse p =>
    obtain ⟨hframe, hbelow, -⟩ := hparse p ht
    exact State.keepsHostSide_of_frame hframe fun x hx => hbelow x (Nat.lt_add_right _ hx)

end Sys2Proof.Machine

open Sys2Proof Sys2Proof.Machine

/-- Settles O59: each kind of command has a frame that leaves the host's side out, and stores nothing below the store. -/
theorem commandsNeverWriteInbuf : Obligations.CommandsNeverWriteInbuf := by
  intro i s t ht
  obtain ⟨hside, hinbuf⟩ := exec_keepsHostSide ht
  simp only [State.hostSide, Prod.mk.injEq] at hside
  exact ⟨hinbuf, hside⟩

/-- Settles O15: the reset state is an empty message over an empty memory, which meets the invariant for parameters in range. -/
theorem resetMeetsTheInvariant : Obligations.ResetMeetsTheInvariant := fun _ hp =>
  State.inv_of_empty hp .nil rfl (Nat.zero_le _) rfl rfl rfl rfl rfl rfl

/-- Settles O18: every register as the reset state writes it, no byte listed, and the views of an empty body. -/
theorem resetValues : Obligations.ResetValues := by
  intro p s
  have hcontents : s.contents = some ([], []) := State.contents_of_used_zero rfl
  exact ⟨rfl, rfl, rfl, rfl, rfl, rfl, rfl, rfl, rfl, rfl, rfl, rfl, rfl, rfl, rfl, rfl, rfl, rfl, rfl, rfl, rfl, rfl, rfl, rfl,
    Memory.read_nil, hcontents, rfl, rfl⟩

/-- Settles O29: the step serves the event, which is `hardReset` over the state with the remaining accesses. -/
theorem resetEvent : Obligations.ResetEvent := by
  intro s rest hs
  rw [step, hs]
  rfl
end
